-- ==== Sys2Proof/Word.lean ====
section
/-! DEFINITION. The widths of 00_scope.md R9 and 30_encoding.md R100. A timestamp is a natural number of milliseconds,
without wrap (00_scope.md R12, 70_reset_and_hazards.md R392): a `Nat`. -/

namespace Sys2Proof

/-- A byte of a wire or a buffer (R10). -/
abbrev Byte := BitVec 8

/-- A message code or a CRC (R72). -/
abbrev U16 := BitVec 16

/-- A data payload or a record's value (R72, R107). -/
abbrev U32 := BitVec 32

/-- The operation word W of a port operation (R100). -/
abbrev PortWord := BitVec 64

/-- A bath time: 0..575 minutes (R33, R39, R222). -/
abbrev Minutes := Fin 576

end Sys2Proof
end

