-- ==== Sys2Proof/Config.lean ====
section
/-! DEFINITION. The configuration of 00_scope.md R6. It is not state (R20, R45): the meanings take it as an
argument, and the machine runs with `Config.chip`. -/

namespace Sys2Proof

/-- P_MODEL: the heater's model variant (R2, R6). -/
inductive Model where
  | pure
  | combiElite
deriving DecidableEq, Repr, Inhabited

/-- The two relays of the command boundary (R32, R306). -/
inductive Relay where
  | light
  | heater
deriving DecidableEq, Repr, Inhabited

/-- The four 0xB000 payloads that have a status and an acknowledgement (R108, R237). -/
inductive AckLiteral where
  | b00060001
  | b00130001
  | b00130003
  | b00140003
deriving DecidableEq, Repr, Inhabited

/-- A command `(type, code, data)` (glossary of 00_scope.md, R270). -/
structure Cmd where
  type : Byte
  code : U16
  data : U32
deriving DecidableEq, Repr, Inhabited

/-- P_SENSOR_NIBBLE_SRC (R6, R238). -/
inductive SensorNibbleSrc where
  | data31_28
  | code7_4
deriving DecidableEq, Repr, Inhabited

/-- P_SESSION_SRC (R6, R309). -/
inductive SessionSrc where
  | coil7180
  | enable3400
deriving DecidableEq, Repr, Inhabited

/-- The parameters of R6, in its order. CRC_SEED, CRC_POLY and ADDR_OUT are fixed and stand where they are used. -/
structure Config where
  /-- P_MODEL -/
  model : Model
  /-- P_LIGHT_MASK(model) -/
  lightMask : Model → U32
  /-- P_COIL_SHIFT(model), 0..29 -/
  coilShift : Model → Fin 30
  /-- P_GAP_MS(model) -/
  gapMs : Model → Nat
  /-- P_TAIL_SIG, six bytes -/
  tailSig : Vector Byte 6
  /-- P_CMD_TYPE -/
  cmdType : Byte
  /-- P_RELAY_CMD(relay, on) -/
  relayCmd : Relay → Bool → Cmd
  /-- P_ACK_CMD(v) -/
  ackCmd : AckLiteral → Cmd
  /-- P_PANEL_TYPES, a set of types: only membership is read -/
  panelTypes : List Byte := [0x07#8, 0x09#8]
  /-- P_BT_TOL, minutes -/
  btTol : Nat
  /-- P_BT_WINDOW_MS -/
  btWindowMs : Nat
  /-- P_DEBOUNCE_MS -/
  debounceMs : Nat
  /-- P_QUEUE_DEPTH, at least 1 -/
  queueDepth : Nat
  /-- P_FRAME_MAX, at least 22 -/
  frameMax : Nat := 64
  /-- P_TEMP_MIN_C -/
  tempMinC : Nat := 0
  /-- P_TEMP_MAX_C -/
  tempMaxC : Nat := 227
  /-- P_MAXTEMP_MIN_C -/
  maxTempMinC : Nat := 0
  /-- P_MAXTEMP_MAX_C -/
  maxTempMaxC : Nat := 227
  /-- P_SENSOR_NIBBLE_SRC -/
  sensorNibbleSrc : SensorNibbleSrc := .data31_28
  /-- P_SESSION_SRC -/
  sessionSrc : SessionSrc := .coil7180
  /-- P_STRICT_LEN -/
  strictLen : Bool := false
  /-- The model's own: the value of a SESSION_UPTIME record whose minute count does not fit its 32 bits, which the
  spec does not state (R107, R312). DESIGN CHOICE (notes/assumptions/11.md): a free value. Safe. -/
  wideUptime : Nat → U32

/-- The bounds R6 and R7 put on the parameters: what a configuration of the block must meet. -/
abbrev Config.Valid (c : Config) : Prop :=
  1 ≤ c.queueDepth ∧ 22 ≤ c.frameMax ∧ 9 * c.tempMaxC ≤ 2047 ∧ 18 * c.maxTempMaxC ≤ 4095 ∧
    c.tempMinC ≤ c.tempMaxC ∧ c.maxTempMinC ≤ c.maxTempMaxC

/-! The OPEN parameters of the modelled block: constants without a body, so that nothing can be proved of one value
(R6; DESIGN CHOICE, notes/assumptions/9.md: safe). -/

/-- OPEN: P_MODEL. -/
opaque Config.openModel : Model
/-- OPEN: P_LIGHT_MASK. -/
opaque Config.openLightMask : Model → U32
/-- OPEN: P_COIL_SHIFT. -/
opaque Config.openCoilShift : Model → Fin 30
/-- OPEN: P_GAP_MS. -/
opaque Config.openGapMs : Model → Nat
/-- OPEN: P_TAIL_SIG. -/
opaque Config.openTailSig : Vector Byte 6
/-- OPEN: P_CMD_TYPE. -/
opaque Config.openCmdType : Byte
/-- OPEN: P_RELAY_CMD. -/
opaque Config.openRelayCmd : Relay → Bool → Cmd
/-- OPEN: P_ACK_CMD. -/
opaque Config.openAckCmd : AckLiteral → Cmd
/-- OPEN: P_BT_TOL. -/
opaque Config.openBtTol : Nat
/-- OPEN: P_BT_WINDOW_MS. -/
opaque Config.openBtWindowMs : Nat
/-- OPEN: P_DEBOUNCE_MS. -/
opaque Config.openDebounceMs : Nat
/-- OPEN: P_QUEUE_DEPTH less one (R6 asks for at least 1). -/
opaque Config.openQueueDepthLessOne : Nat
/-- Free value: see `Config.wideUptime`. -/
opaque Config.openWideUptime : Nat → U32

/-- The configuration of the modelled block: every OPEN parameter left open, every defaulted parameter at its default. -/
def Config.chip : Config where
  model := Config.openModel
  lightMask := Config.openLightMask
  coilShift := Config.openCoilShift
  gapMs := Config.openGapMs
  tailSig := Config.openTailSig
  cmdType := Config.openCmdType
  relayCmd := Config.openRelayCmd
  ackCmd := Config.openAckCmd
  btTol := Config.openBtTol
  btWindowMs := Config.openBtWindowMs
  debounceMs := Config.openDebounceMs
  queueDepth := Config.openQueueDepthLessOne + 1
  wideUptime := Config.openWideUptime

end Sys2Proof
end

