-- ==== Sys2Proof/Syntax.lean ====
section
/-! DEFINITION. The instructions: one constructor per row of spec/opcode_table.json, in the table's order, and the
four formats in which the table encodes them. -/

namespace Sys2Proof

/-- One row of spec/opcode_table.json each. The first eleven are the port operations of 30_encoding.md R101; the
others are the wire rows that an RX_BYTE runs: what the assembler does with a marker byte, what ESC_DECODE does with
an escape pair, what DISPATCH does with a packet's code and payload (notes/assumptions/7.md). -/
inductive Instr where
  /-- RESET (R380) -/
  | reset
  /-- RX_BYTE (R170) -/
  | rxByte (b : Byte)
  /-- TICK (R275) -/
  | tick (rxPending : U16)
  /-- ENQUEUE (R270) -/
  | enqueue (type : Byte) (code : U16) (data : U32)
  /-- SET_BATH_TIME (R331) -/
  | setBathTime (minutes : U16)
  /-- SET_BATH_TEMP (R332) -/
  | setBathTemp (celsius : U16)
  /-- SET_MAX_BATH_TEMP (R333) -/
  | setMaxBathTemp (celsius : U16)
  /-- SET_HUM_STEP (R334) -/
  | setHumStep (step : Byte)
  /-- SET_HUM_PCT (R335) -/
  | setHumPct (percent : Byte)
  /-- SET_LIGHT (R336) -/
  | setLight (on : Bool)
  /-- SET_HEATER (R337) -/
  | setHeater (on : Bool)
  /-- START_MARKER: wire byte 0x98 (R173) -/
  | startMarker
  /-- END_MARKER: wire byte 0x9C (R174, R175) -/
  | endMarker
  /-- ESC_END_MARKER: escape pair 91 63 (R151) -/
  | escEndMarker
  /-- ESC_START_MARKER: escape pair 91 67 (R151) -/
  | escStartMarker
  /-- ESC_ESCAPE: escape pair 91 6E (R151) -/
  | escEscape
  /-- ESC_UNKNOWN: escape pair 91 ff, ff any other byte (R156) -/
  | escUnknown (follow : Byte)
  /-- MSG_HEATER_ENABLE: code 0x3400 (R225) -/
  | msgHeaterEnable (data : U32)
  /-- MSG_BATH_TIMER_MAXTEMP: code 0x4002 (R226) -/
  | msgBathTimerMaxTemp (data : U32)
  /-- MSG_PCB_LIMIT: code 0x4003 (R227) -/
  | msgPcbLimit (data : U32)
  /-- MSG_DATETIME: code 0x4200 (R228) -/
  | msgDatetime (data : U32)
  /-- MSG_TEMPERATURES: code 0x6000 (R229) -/
  | msgTemperatures (data : U32)
  /-- MSG_HUMIDITY: code 0x6001 (R230) -/
  | msgHumidity (data : U32)
  /-- MSG_OPERATION_BLOCKED: code 0x7000 (R231) -/
  | msgOperationBlocked (data : U32)
  /-- MSG_RELAY_COIL: code 0x7180 (R232) -/
  | msgRelayCoil (data : U32)
  /-- MSG_TANK_LEVEL: code 0x7280 (R233) -/
  | msgTankLevel (data : U32)
  /-- MSG_DISALLOWED_WINDOW: code 0x9000 (R234) -/
  | msgDisallowedWindow (data : U32)
  /-- MSG_TOTAL_UPTIME: code 0x9400 (R235) -/
  | msgTotalUptime (data : U32)
  /-- MSG_REMAINING_TIME: code 0x9401 (R236) -/
  | msgRemainingTime (data : U32)
  /-- MSG_DOOR_BLOCK: code 0xB000 (R237) -/
  | msgDoorBlock (data : U32)
  /-- MSG_SENSOR_FAULT: codes 0xB600..0xB6FF, `lo` = code[7:0] (R238) -/
  | msgSensorFault (lo : Byte) (data : U32)
  /-- MSG_UNHANDLED: any code that matches no row above (R239) -/
  | msgUnhandled (code : U16) (data : U32)
deriving DecidableEq, Repr

/-- The four formats of the table: a port word (R100), a wire byte (R90), an escape pair (R94), and a packet's code
with its payload (R92, R97). -/
inductive Encoded where
  | portWord (w : PortWord)
  | wireByte (b : Byte)
  | escapePair (first follow : Byte)
  | packet (code : U16) (data : U32)
deriving DecidableEq, Repr

/-- Why the decoder rejects an encoding: the two reasons of R103 for a port word; a wire byte that is no marker, and a
pair that does not begin with 0x91, are no instruction of the table. -/
inductive Reject where
  | badOp
  | badOperand
  | notAMarker
  | notAnEscape
deriving DecidableEq, Repr

/-- The code families of 10_state.md R40 (B6 is the one family of the codes 0xB600..0xB6FF). -/
inductive Family where
  | f3400
  | f4002
  | f4003
  | f4200
  | f6000
  | f6001
  | f7000
  | f7180
  | f7280
  | f9000
  | f9400
  | f9401
  | fB000
  | fB6
deriving DecidableEq, Repr

end Sys2Proof
end

