-- ==== Sys2Proof/WellFormed.lean ====
section
/-! DEFINITION. Which terms of `Instr` an encoding can stand for. Every operand has the width of its field, so only
the two rows that take "any other" value have a check. -/

namespace Sys2Proof

/-- The exact codes of 30_encoding.md R97. -/
def Instr.exactCodes : List U16 :=
  [0x3400#16, 0x4002#16, 0x4003#16, 0x4200#16, 0x6000#16, 0x6001#16, 0x7000#16, 0x7180#16, 0x7280#16, 0x9000#16, 0x9400#16, 0x9401#16, 0xB000#16]

/-- The follow bytes of the escape table (41_escape.md R151). -/
def Instr.knownFollows : List Byte := [0x63#8, 0x67#8, 0x6E#8]

/-- An unknown escape's follow byte is none of the table's (R156); an unhandled code matches no row of R97 (R239). -/
def Instr.wf : Instr → Bool
  | .escUnknown f => !Instr.knownFollows.contains f
  | .msgUnhandled code _ => !Instr.exactCodes.contains code && code &&& 0xFF00#16 != 0xB600#16
  | .reset => true
  | .rxByte _ => true
  | .tick _ => true
  | .enqueue _ _ _ => true
  | .setBathTime _ => true
  | .setBathTemp _ => true
  | .setMaxBathTemp _ => true
  | .setHumStep _ => true
  | .setHumPct _ => true
  | .setLight _ => true
  | .setHeater _ => true
  | .startMarker => true
  | .endMarker => true
  | .escEndMarker => true
  | .escStartMarker => true
  | .escEscape => true
  | .msgHeaterEnable _ => true
  | .msgBathTimerMaxTemp _ => true
  | .msgPcbLimit _ => true
  | .msgDatetime _ => true
  | .msgTemperatures _ => true
  | .msgHumidity _ => true
  | .msgOperationBlocked _ => true
  | .msgRelayCoil _ => true
  | .msgTankLevel _ => true
  | .msgDisallowedWindow _ => true
  | .msgTotalUptime _ => true
  | .msgRemainingTime _ => true
  | .msgDoorBlock _ => true
  | .msgSensorFault _ _ => true

end Sys2Proof
end

