-- ==== Sys2Proof/Decode.lean ====
section
/-! DEFINITION. The decoder of the four formats of the table, total, rejecting by name, and the encoder. -/

namespace Sys2Proof

/-- The wire bytes of 41_escape.md R150. -/
def startByte : Byte := 0x98#8
/-- The end marker. -/
def endByte : Byte := 0x9C#8
/-- The escape marker. -/
def escByte : Byte := 0x91#8

/-- Two bytes, most significant first (20_memory.md R72). -/
def be16 (hi lo : Byte) : U16 := hi ++ lo

/-- Four bytes, most significant first (20_memory.md R73). -/
def be32 (b0 b1 b2 b3 : Byte) : U32 := b0 ++ b1 ++ b2 ++ b3

/-- The high byte of a 16-bit field. -/
def hiByte (x : U16) : Byte := x.extractLsb' 8 8

/-- The low byte of a 16-bit field. -/
def loByte (x : U16) : Byte := x.extractLsb' 0 8

/-- The four bytes of a payload in wire order (R92). -/
def payloadBytes (d : U32) : List Byte :=
  [d.extractLsb' 24 8, d.extractLsb' 16 8, d.extractLsb' 8 8, d.extractLsb' 0 8]

/-- The operation code OP = W[63:56] (R100). -/
def opOf (w : PortWord) : Byte := w.extractLsb' 56 8

/-- `i` if the reserved bits of W are all 0, BAD_OPERAND otherwise (R101, R103). -/
def ifReservedZero (reservedZero : Bool) (i : Instr) : Except Reject Instr :=
  if reservedZero then .ok i else .error .badOperand

/-- The port operations (30_encoding.md R101, R103): BAD_OP before BAD_OPERAND (R361). -/
def decodePort (w : PortWord) : Except Reject Instr :=
  match (opOf w).toNat with
  | 0x00 => ifReservedZero (w.extractLsb' 0 56 == 0#56) .reset
  | 0x01 => ifReservedZero (w.extractLsb' 8 48 == 0#48) (.rxByte (w.extractLsb' 0 8))
  | 0x02 => ifReservedZero (w.extractLsb' 16 40 == 0#40) (.tick (w.extractLsb' 0 16))
  | 0x03 => .ok (.enqueue (w.extractLsb' 48 8) (w.extractLsb' 32 16) (w.extractLsb' 0 32))
  | 0x10 => ifReservedZero (w.extractLsb' 16 40 == 0#40) (.setBathTime (w.extractLsb' 0 16))
  | 0x11 => ifReservedZero (w.extractLsb' 16 40 == 0#40) (.setBathTemp (w.extractLsb' 0 16))
  | 0x12 => ifReservedZero (w.extractLsb' 16 40 == 0#40) (.setMaxBathTemp (w.extractLsb' 0 16))
  | 0x13 => ifReservedZero (w.extractLsb' 8 48 == 0#48) (.setHumStep (w.extractLsb' 0 8))
  | 0x14 => ifReservedZero (w.extractLsb' 8 48 == 0#48) (.setHumPct (w.extractLsb' 0 8))
  | 0x15 => ifReservedZero (w.extractLsb' 1 55 == 0#55) (.setLight (w.getLsbD 0))
  | 0x16 => ifReservedZero (w.extractLsb' 1 55 == 0#55) (.setHeater (w.getLsbD 0))
  | _ => .error .badOp

/-- The marker bytes (R173, R174). -/
def decodeByte (b : Byte) : Except Reject Instr :=
  if b = startByte then .ok .startMarker
  else if b = endByte then .ok .endMarker
  else .error .notAMarker

/-- The escape pairs (R94, R151, R156). -/
def decodePair (first follow : Byte) : Except Reject Instr :=
  if first = escByte then
    .ok (if follow = 0x63#8 then .escEndMarker
      else if follow = 0x67#8 then .escStartMarker
      else if follow = 0x6E#8 then .escEscape
      else .escUnknown follow)
  else .error .notAnEscape

/-- The message-code map of 30_encoding.md R97: the family of a code, `none` for an unhandled one. -/
def familyOf (code : U16) : Option Family :=
  if code &&& 0xFF00#16 = 0xB600#16 then some .fB6
  else match code.toNat with
  | 0x3400 => some .f3400
  | 0x4002 => some .f4002
  | 0x4003 => some .f4003
  | 0x4200 => some .f4200
  | 0x6000 => some .f6000
  | 0x6001 => some .f6001
  | 0x7000 => some .f7000
  | 0x7180 => some .f7180
  | 0x7280 => some .f7280
  | 0x9000 => some .f9000
  | 0x9400 => some .f9400
  | 0x9401 => some .f9401
  | 0xB000 => some .fB000
  | _ => none

/-- The instruction of an accepted packet (R97, R220). -/
def decodePacket (code : U16) (data : U32) : Instr :=
  match familyOf code with
  | some .f3400 => .msgHeaterEnable data
  | some .f4002 => .msgBathTimerMaxTemp data
  | some .f4003 => .msgPcbLimit data
  | some .f4200 => .msgDatetime data
  | some .f6000 => .msgTemperatures data
  | some .f6001 => .msgHumidity data
  | some .f7000 => .msgOperationBlocked data
  | some .f7180 => .msgRelayCoil data
  | some .f7280 => .msgTankLevel data
  | some .f9000 => .msgDisallowedWindow data
  | some .f9400 => .msgTotalUptime data
  | some .f9401 => .msgRemainingTime data
  | some .fB000 => .msgDoorBlock data
  | some .fB6 => .msgSensorFault (loByte code) data
  | none => .msgUnhandled code data

/-- The decoder of all four formats. -/
def decode : Encoded → Except Reject Instr
  | .portWord w => decodePort w
  | .wireByte b => decodeByte b
  | .escapePair first follow => decodePair first follow
  | .packet code data => .ok (decodePacket code data)

/-- A port word: the operation code over 56 operand bits (R100). -/
def portWord (op : Byte) (operands : BitVec 56) : PortWord := op ++ operands

/-- One bit as an operand field. -/
def bitField (b : Bool) : BitVec 1 := BitVec.ofBool b

/-- The encoding of an instruction (R101, R151, R97). -/
def encode : Instr → Encoded
  | .reset => .portWord (portWord 0x00#8 0#56)
  | .rxByte b => .portWord (portWord 0x01#8 (b.setWidth 56))
  | .tick n => .portWord (portWord 0x02#8 (n.setWidth 56))
  | .enqueue t c d => .portWord (portWord 0x03#8 (t ++ c ++ d))
  | .setBathTime m => .portWord (portWord 0x10#8 (m.setWidth 56))
  | .setBathTemp c => .portWord (portWord 0x11#8 (c.setWidth 56))
  | .setMaxBathTemp c => .portWord (portWord 0x12#8 (c.setWidth 56))
  | .setHumStep n => .portWord (portWord 0x13#8 (n.setWidth 56))
  | .setHumPct p => .portWord (portWord 0x14#8 (p.setWidth 56))
  | .setLight on => .portWord (portWord 0x15#8 ((bitField on).setWidth 56))
  | .setHeater on => .portWord (portWord 0x16#8 ((bitField on).setWidth 56))
  | .startMarker => .wireByte 0x98#8
  | .endMarker => .wireByte 0x9C#8
  | .escEndMarker => .escapePair 0x91#8 0x63#8
  | .escStartMarker => .escapePair 0x91#8 0x67#8
  | .escEscape => .escapePair 0x91#8 0x6E#8
  | .escUnknown f => .escapePair 0x91#8 f
  | .msgHeaterEnable d => .packet 0x3400#16 d
  | .msgBathTimerMaxTemp d => .packet 0x4002#16 d
  | .msgPcbLimit d => .packet 0x4003#16 d
  | .msgDatetime d => .packet 0x4200#16 d
  | .msgTemperatures d => .packet 0x6000#16 d
  | .msgHumidity d => .packet 0x6001#16 d
  | .msgOperationBlocked d => .packet 0x7000#16 d
  | .msgRelayCoil d => .packet 0x7180#16 d
  | .msgTankLevel d => .packet 0x7280#16 d
  | .msgDisallowedWindow d => .packet 0x9000#16 d
  | .msgTotalUptime d => .packet 0x9400#16 d
  | .msgRemainingTime d => .packet 0x9401#16 d
  | .msgDoorBlock d => .packet 0xB000#16 d
  | .msgSensorFault lo d => .packet (0xB6#8 ++ lo) d
  | .msgUnhandled code d => .packet code d

/-- Lay out bits `w` of one table row, numbered as the table numbers them, in the row's format: one byte; a first
16-bit word, most significant byte first (an escape pair if it begins with 0x91), then the two words of a payload;
or one port word (notes/assumptions/7.md, 13.md). -/
def layOut (nbits w : Nat) : Encoded :=
  if 0 < nbits ∧ nbits ≤ 8 then .wireByte (BitVec.ofNat 8 w)
  else if nbits ≤ 48 then
    if nbits ≤ 16 ∧ hiByte (BitVec.ofNat 16 w) = escByte then
      .escapePair (hiByte (BitVec.ofNat 16 w)) (loByte (BitVec.ofNat 16 w))
    else .packet (BitVec.ofNat 16 w) (BitVec.ofNat 16 (w >>> 16) ++ BitVec.ofNat 16 (w >>> 32))
  else .portWord (BitVec.ofNat 64 w)

/-- The instruction the decoder reads from a table row's bits. -/
def decodeTableWord (nbits w : Nat) : Option Instr :=
  match decode (layOut nbits w) with
  | .ok i => some i
  | .error _ => none

end Sys2Proof
end

