-- ==== Sys2Proof/Machine/State.lean ====
section
/-! DEFINITION. The state of the block (10_state.md R20 to R49), its outputs and the model's own fields; its reset;
the reasons a step could stop. Plain data throughout. -/

namespace Sys2Proof.Machine

open Sys2Proof

/-- ASM_STATE (R21). -/
inductive AsmState where
  | waiting
  | inFrame
deriving DecidableEq, Repr

/-- The kinds of event of 30_encoding.md R107, in its order (codes: `EventKind.code`). -/
inductive EventKind where
  | temperature
  | temperatureSetting
  | remainingTime
  | bathTimeSetting
  | totalUptime
  | maxBathTemperature
  | overheatingPcbLimit
  | heaterStatus
  | heaterState
  | lightStatus
  | readyStatus
  | humidityStep
  | humidityPercent
  | waterTankLevel
  | sessionUptime
  | datetime
  | disallowedWindow
  | humidityCurrent
  | humidityPriority
deriving DecidableEq, Repr

/-- The HEATER_STATE status identifiers of 30_encoding.md R108 (codes: `HeaterStateId.code`). -/
inductive HeaterStateId where
  | off
  | on
  | heating
  | standby
  | sensorNotConnected
  | limitTripped
  | operationBlocked
  | blocked (l : AckLiteral)
deriving DecidableEq, Repr

/-- One record of the event port (R107). -/
structure Event where
  kind : EventKind
  value : U32
deriving DecidableEq, Repr

/-- The diagnostic codes of 60_exceptions.md R351, in its order (codes: `DiagCode.code`). -/
inductive DiagCode where
  | frameTooShort
  | crcMismatch
  | unknownEscape
  | unhandledCode
  | panelTraffic
  | frameTooLong
deriving DecidableEq, Repr

/-- One record of the diagnostic port (R351). -/
structure Diag where
  code : DiagCode
  value : U32
deriving DecidableEq, Repr

/-- The reasons of a refusal (60_exceptions.md R361), in the order of the checks. -/
inductive RefuseReason where
  | badOp
  | badOperand
  | timeRegress
  | pctRange
deriving DecidableEq, Repr

/-- FAULT (R43, R360 to R362): the sticky bit QUEUE_OVERFLOW, and REFUSED with one sticky bit for each reason
(REFUSED itself is set when a reason is). -/
structure FaultReg where
  queueOverflow : Bool := false
  badOp : Bool := false
  badOperand : Bool := false
  timeRegress : Bool := false
  pctRange : Bool := false
deriving DecidableEq, Repr

/-- CACHE[f] and CACHE_VALID[f] (R40). -/
structure CacheEntry where
  data : U32 := 0#32
  valid : Bool := false
deriving DecidableEq, Repr

/-- The family caches (R40): one entry per code family. -/
structure Caches where
  c3400 : CacheEntry := {}
  c4002 : CacheEntry := {}
  c4003 : CacheEntry := {}
  c4200 : CacheEntry := {}
  c6000 : CacheEntry := {}
  c6001 : CacheEntry := {}
  c7000 : CacheEntry := {}
  c7180 : CacheEntry := {}
  c7280 : CacheEntry := {}
  c9000 : CacheEntry := {}
  c9400 : CacheEntry := {}
  c9401 : CacheEntry := {}
  cB000 : CacheEntry := {}
  cB6 : CacheEntry := {}
deriving DecidableEq, Repr

/-- A port operation as the host presents it: the pair (W, now) (30_encoding.md R100). -/
structure PortOp where
  word : PortWord
  now : Nat
deriving DecidableEq, Repr

/-- The block's registers in the order of 10_state.md section 1, then its output histories, then the model's own
fields. The defaults are the power-on values (R381). -/
structure State where
  /-- ASM_STATE (R21) -/
  asmState : AsmState := .waiting
  /-- FBUF (R22) -/
  fbuf : List Byte := []
  /-- RXHIST (R23) -/
  rxHist : List Byte := []
  /-- TAIL_ARMED (R24) -/
  tailArmed : Bool := false
  /-- T_LAST_RX (R25) -/
  tLastRx : Option Nat := none
  /-- TXQ (R26), front first -/
  txq : List (List Byte) := []
  /-- HEATING_STATUS (R27) -/
  heatingStatus : Bool := false
  /-- COIL_HEATING (R28) -/
  coilHeating : Bool := false
  /-- LIGHT_TRUTH (R29) -/
  lightTruth : Bool := false
  /-- HEATER_TRUTH (R30) -/
  heaterTruth : Bool := false
  /-- TRUTH_LEARNED (R31) -/
  truthLearned : Bool := false
  /-- LAST_CMD_T[LIGHT] (R32) -/
  lastCmdLight : Option Nat := none
  /-- LAST_CMD_T[HEATER] (R32) -/
  lastCmdHeater : Option Nat := none
  /-- BT_PENDING (R33) -/
  btPending : Option Minutes := none
  /-- BT_SET_T (R34) -/
  btSetT : Nat := 0
  /-- SESSION_ACTIVE (R35) -/
  sessionActive : Bool := false
  /-- SESSION_START_T (R36) -/
  sessionStartT : Nat := 0
  /-- SESSION_ELAPSED_S (R37), seconds -/
  sessionElapsedS : Nat := 0
  /-- SESSION_LAST_PUB_MIN (R38), minutes -/
  sessionLastPubMin : Option Nat := none
  /-- LAST_PUB_TARGET (R39), the 11-bit raw value -/
  lastPubTarget : Option (BitVec 11) := none
  /-- LAST_PUB_BT (R39) -/
  lastPubBt : Option Minutes := none
  /-- CACHE and CACHE_VALID (R40) -/
  caches : Caches := {}
  /-- CODE_B6_LO (R41) -/
  codeB6Lo : Byte := 0#8
  /-- READY (R42) -/
  ready : Bool := false
  /-- FAULT (R43) -/
  fault : FaultReg := {}
  /-- T_LAST_OP (R49) -/
  tLastOp : Option Nat := none
  /-- the event port's history (R109): an output, read by no rule -/
  events : List Event := []
  /-- the diagnostic port's history (R351): an output, read by no rule -/
  diags : List Diag := []
  /-- the transmit port's history (R285), one frame per record: an output, read by no rule -/
  txOut : List (List Byte) := []
  /-- the MODEL's own: the operations presented and not yet taken, oldest first (notes/assumptions/1.md) -/
  inputs : List PortOp := []
  /-- the MODEL's own: the timestamp of the operation being run (R12; notes/assumptions/2.md) -/
  now : Nat := 0
  /-- the MODEL's own: DECODE's local sequence p while a frame is unescaped (R154, R190; notes/assumptions/4.md) -/
  unesc : List Byte := []
deriving DecidableEq, Repr

/-- Power-on (70_reset_and_hazards.md R381): the RESET state with FAULT empty and T_LAST_OP = NONE. Every register's
value is the spec's (R382); nothing is presented yet. -/
def State.reset : State := {}

/-- Why a step could stop: never. The spec's faults are sticky bits of FAULT after which the block goes on (60_exceptions.md
R360, R362), so this type has no constructor and no one raises one (notes/assumptions/6.md: safe). -/
inductive Fault where
deriving DecidableEq, Repr

/-- Why the model could give no meaning. The spec's refusals are recorded in FAULT and the block goes on (R361), so
they are next states, not these. -/
inductive Refusal where
  /-- An instruction without a meaning: raised by an arm of `exec` only. Safe. No arm raises it now. -/
  | notModelled (mnemonic : String)
deriving DecidableEq, Repr

end Sys2Proof.Machine
end

