-- ==== Sys2Proof/Machine/Ports.lean ====
section
/-! DEFINITION. The codes of the output records (30_encoding.md R107, R108; 60_exceptions.md R351). -/

namespace Sys2Proof.Machine

open Sys2Proof

/-- The kind byte of an event record (R107). -/
def EventKind.code : EventKind → Byte
  | .temperature => 0x01#8
  | .temperatureSetting => 0x02#8
  | .remainingTime => 0x03#8
  | .bathTimeSetting => 0x04#8
  | .totalUptime => 0x05#8
  | .maxBathTemperature => 0x06#8
  | .overheatingPcbLimit => 0x07#8
  | .heaterStatus => 0x08#8
  | .heaterState => 0x09#8
  | .lightStatus => 0x0A#8
  | .readyStatus => 0x0B#8
  | .humidityStep => 0x0C#8
  | .humidityPercent => 0x0D#8
  | .waterTankLevel => 0x0E#8
  | .sessionUptime => 0x0F#8
  | .datetime => 0x40#8
  | .disallowedWindow => 0x41#8
  | .humidityCurrent => 0x42#8
  | .humidityPriority => 0x43#8

/-- The status identifier of a HEATER_STATE event (R108). -/
def HeaterStateId.code : HeaterStateId → U32
  | .off => 0x00#32
  | .on => 0x01#32
  | .heating => 0x02#32
  | .standby => 0x03#32
  | .sensorNotConnected => 0x10#32
  | .limitTripped => 0x11#32
  | .operationBlocked => 0x12#32
  | .blocked .b00060001 => 0x20#32
  | .blocked .b00130001 => 0x21#32
  | .blocked .b00130003 => 0x22#32
  | .blocked .b00140003 => 0x23#32

/-- The code byte of a diagnostic record (R351). -/
def DiagCode.code : DiagCode → Byte
  | .frameTooShort => 0x80#8
  | .crcMismatch => 0x81#8
  | .unknownEscape => 0x82#8
  | .unhandledCode => 0x83#8
  | .panelTraffic => 0x84#8
  | .frameTooLong => 0x85#8

/-- An event as the port carries it: (kind u8, value u32) (R107). -/
def Event.record (e : Event) : Byte × U32 := (e.kind.code, e.value)

/-- A diagnostic as the port carries it: (code u8, value u32) (R351). -/
def Diag.record (d : Diag) : Byte × U32 := (d.code.code, d.value)

end Sys2Proof.Machine
end

