-- ==== Sys2Proof/Machine/Ops.lean ====
section
/-! DEFINITION. The named updates of the state: appending an output record, the family caches, and what this block
has in place of taking an exception (60_exceptions.md R350, R364): a fault, a refusal, and the checks every port
operation makes first. -/

namespace Sys2Proof.Machine

open Sys2Proof

/-- One bit as a record's value. -/
def bitValue (b : Bool) : U32 := if b then 1#32 else 0#32

/-- `emit EV(kind, value)` (R11, R109): append one record; it never fails. -/
def State.emit (s : State) (kind : EventKind) (value : U32) : State :=
  { s with events := s.events ++ [⟨kind, value⟩] }

/-- `emit EV(HEATER_STATE, id)` (R108). -/
def State.emitHeaterState (s : State) (id : HeaterStateId) : State := s.emit .heaterState id.code

/-- `diag DG(code, value)` (R11, R351): append one record. -/
def State.report (s : State) (code : DiagCode) (value : U32) : State :=
  { s with diags := s.diags ++ [⟨code, value⟩] }

/-- `tx(bytes)` (R285): append one transmit record, the whole frame. -/
def State.transmit (s : State) (frame : List Byte) : State :=
  { s with txOut := s.txOut ++ [frame] }

/-- `fault QUEUE_OVERFLOW` (R360): set the sticky bit; the caller makes no further step. -/
def State.raiseOverflow (s : State) : State :=
  { s with fault := { s.fault with queueOverflow := true } }

/-- FAULT with one more reason of REFUSED (R361). -/
def FaultReg.mark (f : FaultReg) : RefuseReason → FaultReg
  | .badOp => { f with badOp := true }
  | .badOperand => { f with badOperand := true }
  | .timeRegress => { f with timeRegress := true }
  | .pctRange => { f with pctRange := true }

/-- REFUSED: some reason is recorded (R43, R361). -/
def FaultReg.refused (f : FaultReg) : Bool := f.badOp || f.badOperand || f.timeRegress || f.pctRange

/-- `refuse R` (R361): the operation changes nothing but FAULT. -/
def State.refuse (s : State) (r : RefuseReason) : State := { s with fault := s.fault.mark r }

/-- The reason a rejected port word is refused with (R103, R361). -/
def rejectReason : Reject → RefuseReason
  | .badOp => .badOp
  | .badOperand => .badOperand
  | .notAMarker => .badOp
  | .notAnEscape => .badOp

/-- The monotonic check (R392): `now` is less than T_LAST_OP; no check while that is NONE. -/
def State.timeRegresses (s : State) : Bool :=
  match s.tLastOp with
  | none => false
  | some t => decide (s.now < t)

/-- T_LAST_OP takes `now` before the operation's other steps (R49). -/
def State.noteOp (s : State) : State := { s with tLastOp := some s.now }

/-- What every port operation does first (R361, R387): refused with TIME_REGRESS, or its own body after T_LAST_OP. -/
def accept (body : State → State) (s : State) : State :=
  if s.timeRegresses then s.refuse .timeRegress else body s.noteOp

/-- CACHE[f] and CACHE_VALID[f] (R40). -/
def Caches.get (c : Caches) : Family → CacheEntry
  | .f3400 => c.c3400
  | .f4002 => c.c4002
  | .f4003 => c.c4003
  | .f4200 => c.c4200
  | .f6000 => c.c6000
  | .f6001 => c.c6001
  | .f7000 => c.c7000
  | .f7180 => c.c7180
  | .f7280 => c.c7280
  | .f9000 => c.c9000
  | .f9400 => c.c9400
  | .f9401 => c.c9401
  | .fB000 => c.cB000
  | .fB6 => c.cB6

/-- The caches with one family's entry replaced. -/
def Caches.set (c : Caches) (f : Family) (e : CacheEntry) : Caches :=
  match f with
  | .f3400 => { c with c3400 := e }
  | .f4002 => { c with c4002 := e }
  | .f4003 => { c with c4003 := e }
  | .f4200 => { c with c4200 := e }
  | .f6000 => { c with c6000 := e }
  | .f6001 => { c with c6001 := e }
  | .f7000 => { c with c7000 := e }
  | .f7180 => { c with c7180 := e }
  | .f7280 => { c with c7280 := e }
  | .f9000 => { c with c9000 := e }
  | .f9400 => { c with c9400 := e }
  | .f9401 => { c with c9401 := e }
  | .fB000 => { c with cB000 := e }
  | .fB6 => { c with cB6 := e }

/-- The payload a family's cache holds (R40). -/
def State.cached (s : State) (f : Family) : U32 := (s.caches.get f).data

/-- `S.CACHE[f] <- data; S.CACHE_VALID[f] <- 1` (R220). -/
def State.writeCache (s : State) (f : Family) (data : U32) : State :=
  { s with caches := s.caches.set f ⟨data, true⟩ }

/-- ESC_DECODE's `out <- out ++ [b]` (R154). -/
def State.outUnescaped (s : State) (b : Byte) : State := { s with unesc := s.unesc ++ [b] }

/-- A new, empty `out` (R154), or its end. -/
def State.clearUnescaped (s : State) : State := { s with unesc := [] }

end Sys2Proof.Machine
end

