-- ==== Sys2Proof/Machine/Operands.lean ====
section
/-! DEFINITION. Every operand form: the payload fields of 30_encoding.md R99, the bath-time bucket rule, the input
clamps of 47_command_port.md, and the payloads the encode rules build (44_field_codec.md R244 to R249). -/

namespace Sys2Proof.Machine

open Sys2Proof

/-- `clamp(x, lo, hi)` (00_scope.md R9). -/
def clamp (x lo hi : Nat) : Nat := min (max x lo) hi

/-- `clamp` on the integers, for a difference that may be negative (R9, R230). -/
def clampInt (x lo hi : Int) : Int := min (max x lo) hi

/-! ### Payload fields (R99) -/

/-- 0x4002 bt_raw = data[11:0]. -/
def btRawOf (d : U32) : BitVec 12 := d.extractLsb' 0 12
/-- 0x4002 maxt_raw = data[31:20]. -/
def maxtRawOf (d : U32) : BitVec 12 := d.extractLsb' 20 12
/-- 0x4003 pcb_raw = data[21:11]. -/
def pcbRawOf (d : U32) : BitVec 11 := d.extractLsb' 11 11
/-- 0x6000 cur_raw = data[10:0]. -/
def curRawOf (d : U32) : BitVec 11 := d.extractLsb' 0 11
/-- 0x6000 tgt_raw = data[21:11]. -/
def tgtRawOf (d : U32) : BitVec 11 := d.extractLsb' 11 11
/-- 0x6001 step_raw = data[11:4]. -/
def stepRawOf (d : U32) : BitVec 8 := d.extractLsb' 4 8
/-- 0x6001 pct_tgt = data[12:7]. -/
def pctTgtOf (d : U32) : BitVec 6 := d.extractLsb' 7 6
/-- 0x6001 pct_cur = data[6:0]. -/
def pctCurOf (d : U32) : BitVec 7 := d.extractLsb' 0 7
/-- 0x6001 priority = data[15:14]. -/
def priorityOf (d : U32) : BitVec 2 := d.extractLsb' 14 2
/-- 0x7280 tank = data[12:11]. -/
def tankOf (d : U32) : BitVec 2 := d.extractLsb' 11 2
/-- 0x9401 remaining = data[15:0]. -/
def remainingOf (d : U32) : U16 := d.extractLsb' 0 16

/-- The fields of a 0x4200 payload (R228): read out of the DATETIME event by its consumer, none range-checked. -/
structure DateTime where
  minute : Nat
  hour : Nat
  day : Nat
  month : Nat
  year : Nat
deriving DecidableEq, Repr

/-- minute = data[5:0], hour = data[10:6], day = data[15:12], month = data[20:17], year = 2000 + data[25:21] (R228). -/
def dateTimeOf (d : U32) : DateTime where
  minute := (d.extractLsb' 0 6).toNat
  hour := (d.extractLsb' 6 5).toNat
  day := (d.extractLsb' 12 4).toNat
  month := (d.extractLsb' 17 4).toNat
  year := 2000 + (d.extractLsb' 21 5).toNat

/-- The temperature a raw value of 0x6000 stands for: raw/9 °C, exactly (R240). -/
def celsiusOfNinths (raw : Nat) : Rat := raw / 9

/-- The temperature a raw value of 0x4002 or 0x4003 stands for: raw/18 °C, exactly (R240). -/
def celsiusOfEighteenths (raw : Nat) : Rat := raw / 18

/-! ### The bath-time bucket rule -/

/-- A number of minutes brought into 0..575. -/
def clampMinutes (n : Nat) : Minutes := ⟨min n 575, by omega⟩

/-- The bucket index `clamp(x div 64 - 1, 0, 7)` of R222 and R223. -/
def bucket (x : Nat) : Nat := clamp (x / 64 - 1) 0 7

/-- BT_DECODE (R222). -/
def btDecode (raw : BitVec 12) : Minutes :=
  if raw.toNat ≤ 63 then clampMinutes raw.toNat
  else clampMinutes (raw.toNat - 4 * (bucket raw.toNat + 1))

/-- BT_ENCODE (R223). -/
def btEncode (m : Minutes) : BitVec 12 :=
  if m.val ≤ 63 then BitVec.ofNat 12 m.val
  else BitVec.ofNat 12 (min (m.val + 4 * (bucket m.val + 1)) 4095)

/-- Minutes as a record's value. -/
def minutesValue (m : Minutes) : U32 := BitVec.ofNat 32 m.val

/-! ### Decoded values -/

/-- The humidity step `clamp((step_raw - 40) div 8, 0, 10)` (R230): floor division on the integers (R9). -/
def humStepOf (d : U32) : Nat := (clampInt (((stepRawOf d).toNat - 40 : Int) / 8) 0 10).toNat

/-- The humidity target `clamp(data[12:7], 0, 100)` (R230). -/
def humPctOf (d : U32) : Nat := clamp (pctTgtOf d).toNat 0 100

/-- The tank level (R233): 0, 50, 100, or 0xFF for the source's "error". -/
def tankLevelOf (d : U32) : U32 :=
  match (tankOf d).toNat with
  | 0 => 0#32
  | 1 => 50#32
  | 2 => 100#32
  | _ => 0xFF#32

/-- The remaining minutes (R236): the sentinels 0xFFFC..0xFFFF give 0. -/
def remainingMinutesOf (d : U32) : U32 :=
  if (remainingOf d).toNat ≥ 0xFFFC then 0#32 else (remainingOf d).setWidth 32

/-- The 0xB000 payloads with a status and an acknowledgement (R237). -/
def ackLiteralOf (d : U32) : Option AckLiteral :=
  if d = 0x00060001#32 then some .b00060001
  else if d = 0x00130001#32 then some .b00130001
  else if d = 0x00130003#32 then some .b00130003
  else if d = 0x00140003#32 then some .b00140003
  else none

/-- The nibble a 0xB6xx packet is read by (R238): data[31:28] or code[7:4]. -/
def sensorNibbleOf (c : Config) (lo : Byte) (d : U32) : BitVec 4 :=
  match c.sensorNibbleSrc with
  | .data31_28 => d.extractLsb' 28 4
  | .code7_4 => lo.extractLsb' 4 4

/-! ### Encode rules: merging a field into the family's cache -/

/-- The merge rule (R244): `(cache & ~M) | (v << s)`. -/
def mergeField (cache mask value : U32) (shift : Nat) : U32 := (cache &&& ~~~mask) ||| (value <<< shift)

/-- ENC_BATH_TIME (R245). -/
def encBathTime (s : State) (m : Minutes) : U32 :=
  mergeField (s.cached .f4002) 0x00000FFF#32 ((btEncode m).setWidth 32) 0

/-- ENC_TEMP (R246). -/
def encTemp (s : State) (celsius : Nat) : U32 :=
  mergeField (s.cached .f6000) (0x7FF#32 <<< 11) (BitVec.ofNat 32 (9 * celsius)) 11

/-- ENC_MAX_TEMP (R247). -/
def encMaxTemp (s : State) (celsius : Nat) : U32 :=
  mergeField (s.cached .f4002) 0xFFF00000#32 (BitVec.ofNat 32 (18 * celsius)) 20

/-- ENC_HUM_STEP (R248). -/
def encHumStep (s : State) (step : Nat) : U32 :=
  mergeField (s.cached .f6001) (0xFF#32 <<< 4) (BitVec.ofNat 32 (40 + 8 * step)) 4

/-- ENC_HUM_PCT (R249). -/
def encHumPct (s : State) (percent : Nat) : U32 :=
  mergeField (s.cached .f6001) (0x3F#32 <<< 7) (BitVec.ofNat 32 percent) 7

end Sys2Proof.Machine
end

