-- ==== Sys2Proof/Machine/Flags.lean ====
section
/-! DEFINITION. Every flag computation the spec gives (10_state.md section 4, 44_field_codec.md). -/

namespace Sys2Proof.Machine

open Sys2Proof

/-- The heater-enable flag, data[4] of 0x3400 (R225). -/
def enableFlag (d : U32) : Bool := d.getLsbD 4

/-- The light flag of 0x7180: `(data & P_LIGHT_MASK(P_MODEL)) ≠ 0` (R232). -/
def lightFlag (c : Config) (d : U32) : Bool := d &&& c.lightMask c.model != 0#32

/-- The coil field of 0x7180: `(data >> P_COIL_SHIFT(P_MODEL)) & 0x7` (R232). -/
def coilField (c : Config) (d : U32) : U32 := (d >>> (c.coilShift c.model).val) &&& 0x7#32

/-- The heating flag of 0x7180: some coil bit is set (R232). -/
def coilFlag (c : Config) (d : U32) : Bool := coilField c d != 0#32

/-- The ready flag of 0xB000: ¬data[0] (R237). -/
def readyFlag (d : U32) : Bool := !d.getLsbD 0

/-- The mode bit of 0x6001, data[28]: set in percent mode (R230). -/
def percentMode (d : U32) : Bool := d.getLsbD 28

/-- RXHIST after one more byte: the last six bytes received (R273). -/
def pushHistory (hist : List Byte) (b : Byte) : List Byte :=
  (hist ++ [b]).drop ((hist ++ [b]).length - 6)

/-- The tail flag: the last six bytes are P_TAIL_SIG, bit for bit (R273, R274). -/
def tailFlag (c : Config) (hist : List Byte) : Bool := hist == c.tailSig.toList

/-- The HEATER_STATE of a 0x7180 packet (R232). -/
def coilState (heating heatingStatus : Bool) : HeaterStateId :=
  if heating then .heating else if heatingStatus then .standby else .off

end Sys2Proof.Machine
end

