-- ==== Sys2Proof/Machine/Crc.lean ====
section
/-! DEFINITION. The CRC engine (40_crc.md). -/

namespace Sys2Proof.Machine

open Sys2Proof

/-- CRC_SEED (R130). -/
def crcSeed : U16 := 0xFFFF#16

/-- CRC_POLY (R130). -/
def crcPoly : U16 := 0x90D9#16

/-- One shift of the register: the polynomial is XORed in when the bit shifted out of position 15 is 1 (R131). -/
def crcShift (c : U16) : U16 := if c.getLsbD 15 then (c <<< 1) ^^^ crcPoly else c <<< 1

/-- `n` shifts. -/
def crcShifts : Nat → U16 → U16
  | 0, c => c
  | n + 1, c => crcShifts n (crcShift c)

/-- One byte: XORed into the high byte, then eight shifts (R131; the loop form is the spec's PRESUMED reading, D42). -/
def crcByte (c : U16) (b : Byte) : U16 := crcShifts 8 (c ^^^ (b.setWidth 16 <<< 8))

/-- CRC16 (R131), with no final XOR (R132). -/
def crc16 (bytes : List Byte) : U16 := bytes.foldl crcByte crcSeed

/-- One bit of the bit-serial form (R133). -/
def crcSerialBit (c : U16) (bit : Bool) : U16 :=
  if c.getLsbD 15 ^^ bit then (c <<< 1) ^^^ crcPoly else c <<< 1

/-- The bits `n - 1` down to 0 of a byte, fed in that order. -/
def crcSerialBits : Nat → U16 → Byte → U16
  | 0, c, _ => c
  | n + 1, c, b => crcSerialBits n (crcSerialBit c (b.getLsbD n)) b

/-- The bit-serial form of R133: one data bit at a time, most significant first. -/
def crc16Serial (bytes : List Byte) : U16 := bytes.foldl (crcSerialBits 8) crcSeed

end Sys2Proof.Machine
end

