-- ==== Sys2Proof/Machine/Framer.lean ====
section
/-! DEFINITION. ESC_ENCODE (41_escape.md R152) and the framer ENCODE (43_packet_codec.md R203 to R209). -/

namespace Sys2Proof.Machine

open Sys2Proof

/-- The reserved set of R150. -/
def isReserved (b : Byte) : Bool := b == endByte || b == startByte || b == escByte

/-- One byte on the wire (R151, R152). -/
def escEncodeByte (b : Byte) : List Byte :=
  if b = 0x9C#8 then [0x91#8, 0x63#8]
  else if b = 0x98#8 then [0x91#8, 0x67#8]
  else if b = 0x91#8 then [0x91#8, 0x6E#8]
  else [b]

/-- ESC_ENCODE (R152). -/
def escEncode (s : List Byte) : List Byte := s.flatMap escEncodeByte

/-- The eight content bytes (R92, R204). -/
def contentBytes (address type : Byte) (code : U16) (data : U32) : List Byte :=
  [address, type, hiByte code, loByte code] ++ payloadBytes data

/-- The ten packet bytes: the content and its CRC, high byte first (R92, R206). -/
def packetBytes (address type : Byte) (code : U16) (data : U32) : List Byte :=
  contentBytes address type code data ++
    [hiByte (crc16 (contentBytes address type code data)), loByte (crc16 (contentBytes address type code data))]

/-- A frame (R91, R207, R208) with any address: what the pseudo-operation RXPKT presents (R106). -/
def frameOf (address type : Byte) (code : U16) (data : U32) : List Byte :=
  [startByte] ++ escEncode (packetBytes address type code data) ++ [endByte]

/-- ENCODE (R203): the address of every frame the block builds is 0x40 (ADDR_OUT, R205). -/
def encodeFrame (cmd : Cmd) : List Byte := frameOf 0x40#8 cmd.type cmd.code cmd.data

end Sys2Proof.Machine
end

