-- ==== Sys2Proof/Machine/Queue.lean ====
section
/-! DEFINITION. The command queue, the tail detector and the scheduler (45_command_queue.md). -/

namespace Sys2Proof.Machine

open Sys2Proof

/-- `len(S.TXQ) == P_QUEUE_DEPTH` (R270, R271). -/
def State.queueFull (c : Config) (s : State) : Bool := s.txq.length == c.queueDepth

/-- PUSH (R270) and the rest `k` of the operation that calls it: a full queue sets QUEUE_OVERFLOW and ends the
operation, what it did before standing (R271, R360). -/
def push (c : Config) (cmd : Cmd) (k : State → State) (s : State) : State :=
  if s.queueFull c then s.raiseOverflow else k { s with txq := s.txq ++ [encodeFrame cmd] }

/-- TAIL_UPDATE (R273). -/
def tailUpdate (c : Config) (b : Byte) (s : State) : State :=
  { s with rxHist := pushHistory s.rxHist b, tailArmed := tailFlag c (pushHistory s.rxHist b) }

/-- The inter-frame gap has elapsed: `now - T_LAST_RX ≥ P_GAP_MS(P_MODEL)` (R277). While T_LAST_RX is NONE it has not
(R276: no run reaches an armed block with NONE; notes/assumptions/12.md). -/
def gapElapsed (c : Config) (s : State) : Bool :=
  match s.tLastRx with
  | none => false
  | some t => decide (t + c.gapMs c.model ≤ s.now)

/-- The conditions of the send step other than a waiting frame (R276 to R278). -/
def maySend (c : Config) (rxPending : U16) (s : State) : Bool :=
  s.tailArmed && rxPending == 0#16 && gapElapsed c s

/-- SCHEDULE (R276, R280): send the front frame whole and disarm, or do nothing. -/
def schedule (c : Config) (rxPending : U16) (s : State) : State :=
  match s.txq with
  | [] => s
  | f :: rest =>
    if maySend c rxPending s then ({ s with txq := rest, tailArmed := false } : State).transmit f else s

end Sys2Proof.Machine
end

