-- ==== Sys2Proof/Machine/Reconciler.lean ====
section
/-! DEFINITION. The state reconciler (46_reconciler.md) and publication on change (44_field_codec.md R221). -/

namespace Sys2Proof.Machine

open Sys2Proof

/-- PUBLISH_BT (R304): PUBLISH_ON_CHANGE(LAST_PUB_BT, BATH_TIME_SETTING, v) (R221). -/
def publishBt (v : Minutes) (s : State) : State :=
  if s.lastPubBt = some v then s
  else ({ s with lastPubBt := some v } : State).emit .bathTimeSetting (minutesValue v)

/-- PUBLISH_ON_CHANGE(LAST_PUB_TARGET, TEMPERATURE_SETTING, v) (R221, R229). -/
def publishTarget (v : BitVec 11) (s : State) : State :=
  if s.lastPubTarget = some v then s
  else ({ s with lastPubTarget := some v } : State).emit .temperatureSetting (v.setWidth 32)

/-- `(now - BT_SET_T) < P_BT_WINDOW_MS` (R301), on the integers. -/
def withinBtWindow (c : Config) (s : State) : Bool := decide (s.now < s.btSetT + c.btWindowMs)

/-- `|m - p| > P_BT_TOL` (R301), on the integers. -/
def farFrom (c : Config) (m p : Minutes) : Bool := decide (c.btTol < ((m.val : Int) - (p.val : Int)).natAbs)

/-- BT_RECONCILE (R301, R303). -/
def btReconcile (c : Config) (m : Minutes) (s : State) : State :=
  match s.btPending with
  | none => publishBt m s
  | some p =>
    if (withinBtWindow c s && farFrom c m p) || !s.heatingStatus then publishBt p s
    else publishBt m { s with btPending := none }

/-- TRUTH_LEARN (R305). -/
def truthLearn (light heater : Bool) (s : State) : State :=
  { s with lightTruth := light, heaterTruth := heater, truthLearned := true }

/-- TRUTH(r) (R306). -/
def State.truth (s : State) : Relay → Bool
  | .light => s.lightTruth
  | .heater => s.heaterTruth

/-- LAST_CMD_T[r] (R32). -/
def State.lastCmd (s : State) : Relay → Option Nat
  | .light => s.lastCmdLight
  | .heater => s.lastCmdHeater

/-- `S.LAST_CMD_T[r] <- now` (R306). -/
def State.noteCmd (s : State) : Relay → State
  | .light => { s with lastCmdLight := some s.now }
  | .heater => { s with lastCmdHeater := some s.now }

/-- STATUS(r) (R306). -/
def relayStatus : Relay → EventKind
  | .light => .lightStatus
  | .heater => .heaterStatus

/-- `LAST_CMD_T[r] ≠ NONE and now - LAST_CMD_T[r] < P_DEBOUNCE_MS` (R306, R308), on the integers. -/
def debounced (c : Config) (r : Relay) (s : State) : Bool :=
  match s.lastCmd r with
  | none => false
  | some t => decide (s.now < t + c.debounceMs)

/-- RELAY_SET (R306 to R308). -/
def relaySet (c : Config) (r : Relay) (on : Bool) (s : State) : State :=
  if s.truthLearned then
    if on = s.truth r then s else push c (c.relayCmd r on) (fun s => s.noteCmd r) s
  else if debounced c r s then s
  else push c (c.relayCmd r on) (fun s => (s.noteCmd r).emit (relayStatus r) (bitValue on)) s

/-- The value of a SESSION_UPTIME record: the minutes, or a free value where they do not fit 32 bits, which the spec
does not state (notes/assumptions/11.md). -/
def uptimeValue (c : Config) (mins : Nat) : U32 :=
  if mins < 2 ^ 32 then BitVec.ofNat 32 mins else c.wideUptime mins

/-- SESSION_UPDATE (R309 to R311). -/
def sessionUpdate (h : Bool) (s : State) : State :=
  if h && !s.sessionActive then
    ({ s with sessionActive := true, sessionStartT := s.now, sessionElapsedS := 0,
              sessionLastPubMin := some 0 } : State).emit .sessionUptime 0#32
  else if !h && s.sessionActive then
    { s with sessionActive := false, sessionElapsedS := (s.now - s.sessionStartT) / 1000 }
  else s

/-- SESSION_TICK (R312, R313). -/
def sessionTick (c : Config) (s : State) : State :=
  if s.sessionActive then
    let s1 : State := { s with sessionElapsedS := (s.now - s.sessionStartT) / 1000 }
    let mins := (s.now - s.sessionStartT) / 60000
    if s.sessionLastPubMin = some mins then s1
    else ({ s1 with sessionLastPubMin := some mins } : State).emit .sessionUptime (uptimeValue c mins)
  else s

end Sys2Proof.Machine
end

