-- ==== Sys2Proof/Machine/FieldCodec.lean ====
section
/-! DEFINITION. The field decoders, one per message code, and DISPATCH (44_field_codec.md R220 to R239). -/

namespace Sys2Proof.Machine

open Sys2Proof

/-- DECODE_3400 (R225). -/
def decode3400 (c : Config) (d : U32) (s : State) : State :=
  let s1 := (({ s with heatingStatus := enableFlag d } : State).emit .heaterStatus
    (bitValue (enableFlag d))).emitHeaterState (if enableFlag d then .on else .off)
  match c.sessionSrc with
  | .enable3400 => sessionUpdate (enableFlag d) s1
  | .coil7180 => s1

/-- DECODE_4002 (R226). -/
def decode4002 (c : Config) (d : U32) (s : State) : State :=
  (btReconcile c (btDecode (btRawOf d)) s).emit .maxBathTemperature ((maxtRawOf d).setWidth 32)

/-- DECODE_4003 (R227). -/
def decode4003 (d : U32) (s : State) : State := s.emit .overheatingPcbLimit ((pcbRawOf d).setWidth 32)

/-- DECODE_4200 (R228). -/
def decode4200 (d : U32) (s : State) : State := s.emit .datetime d

/-- DECODE_6000 (R229). -/
def decode6000 (d : U32) (s : State) : State :=
  publishTarget (tgtRawOf d) (s.emit .temperature ((curRawOf d).setWidth 32))

/-- DECODE_6001 (R230). -/
def decode6001 (d : U32) (s : State) : State :=
  (if percentMode d then
    (s.emit .humidityPercent (BitVec.ofNat 32 (humPctOf d))).emit .humidityCurrent ((pctCurOf d).setWidth 32)
  else s.emit .humidityStep (BitVec.ofNat 32 (humStepOf d))).emit .humidityPriority ((priorityOf d).setWidth 32)

/-- DECODE_7000 (R231). -/
def decode7000 (s : State) : State :=
  if s.heatingStatus then s else s.emitHeaterState .operationBlocked

/-- DECODE_7180 (R232). -/
def decode7180 (c : Config) (d : U32) (s : State) : State :=
  let s1 := (s.emit .lightStatus (bitValue (lightFlag c d))).emitHeaterState
    (coilState (coilFlag c d) s.heatingStatus)
  let s2 := truthLearn (lightFlag c d) (coilFlag c d) { s1 with coilHeating := coilFlag c d }
  match c.sessionSrc with
  | .coil7180 => sessionUpdate (coilFlag c d) s2
  | .enable3400 => s2

/-- DECODE_7280 (R233). -/
def decode7280 (d : U32) (s : State) : State := s.emit .waterTankLevel (tankLevelOf d)

/-- DECODE_9000 (R234): the raw payload. -/
def decode9000 (d : U32) (s : State) : State := s.emit .disallowedWindow d

/-- DECODE_9400 (R235). -/
def decode9400 (d : U32) (s : State) : State := s.emit .totalUptime d

/-- DECODE_9401 (R236). -/
def decode9401 (d : U32) (s : State) : State := s.emit .remainingTime (remainingMinutesOf d)

/-- DECODE_B000 (R237). -/
def decodeB000 (c : Config) (d : U32) (s : State) : State :=
  let s1 := ({ s with ready := readyFlag d } : State).emit .readyStatus (bitValue (readyFlag d))
  match ackLiteralOf d with
  | none => s1
  | some l => push c (c.ackCmd l) (fun s => s) (s1.emitHeaterState (.blocked l))

/-- DECODE_B6 (R238). -/
def decodeB6 (c : Config) (lo : Byte) (d : U32) (s : State) : State :=
  let s1 : State := { s with codeB6Lo := lo }
  if sensorNibbleOf c lo d = 0x3#4 then s1.emitHeaterState .sensorNotConnected
  else if sensorNibbleOf c lo d = 0x1#4 then s1.emitHeaterState .limitTripped
  else s1

/-- DECODE_f of R220: the decode rule of each family. -/
def decodeFamily (c : Config) (f : Family) (code : U16) (d : U32) (s : State) : State :=
  match f with
  | .f3400 => decode3400 c d s
  | .f4002 => decode4002 c d s
  | .f4003 => decode4003 d s
  | .f4200 => decode4200 d s
  | .f6000 => decode6000 d s
  | .f6001 => decode6001 d s
  | .f7000 => decode7000 s
  | .f7180 => decode7180 c d s
  | .f7280 => decode7280 d s
  | .f9000 => decode9000 d s
  | .f9400 => decode9400 d s
  | .f9401 => decode9401 d s
  | .fB000 => decodeB000 c d s
  | .fB6 => decodeB6 c (loByte code) d s

/-- A packet of a known family: its cache first, then its decode rule (R220). -/
def receiveFamily (c : Config) (f : Family) (code : U16) (d : U32) (s : State) : State :=
  decodeFamily c f code d (s.writeCache f d)

/-- UNHANDLED (R239, R355). -/
def unhandled (code : U16) (s : State) : State := s.report .unhandledCode (code.setWidth 32)

/-- DISPATCH (R220). -/
def dispatch (c : Config) (code : U16) (d : U32) (s : State) : State :=
  match familyOf code with
  | some f => receiveFamily c f code d s
  | none => unhandled code s

end Sys2Proof.Machine
end

