-- ==== Sys2Proof/Machine/Unframer.lean ====
section
/-! DEFINITION. ESC_DECODE (41_escape.md R154) and the unframer DECODE (43_packet_codec.md R190 to R202). -/

namespace Sys2Proof.Machine

open Sys2Proof

/-- What an escape pair with follow byte `f` puts out (R151, R156): the byte it stands for, or 0x91 with the
diagnostic for an unknown one. -/
def unescapePair (f : Byte) (s : State) : State :=
  if f = 0x63#8 then s.outUnescaped 0x9C#8
  else if f = 0x67#8 then s.outUnescaped 0x98#8
  else if f = 0x6E#8 then s.outUnescaped 0x91#8
  else (s.outUnescaped 0x91#8).report .unknownEscape (f.setWidth 32)

/-- A 0x91 with no follow byte (R157). -/
def unescapeTrailing (s : State) : State := (s.outUnescaped 0x91#8).report .unknownEscape 0x100#32

/-- ESC_DECODE (R154, R155), its output appended to UNESC. -/
def unescape : List Byte → State → State
  | [], s => s
  | [b], s => if b = escByte then unescapeTrailing s else s.outUnescaped b
  | b :: f :: rest, s =>
    if b = escByte then unescape rest (unescapePair f s) else unescape (f :: rest) (s.outUnescaped b)

/-- The byte at an index of a sequence that is long enough (R10). -/
def byteAt (p : List Byte) (i : Nat) : Byte := p.getD i 0#8

/-- The code of a content (R198). -/
def codeOf (content : List Byte) : U16 := be16 (byteAt content 2) (byteAt content 3)

/-- The data of a content (R198). -/
def dataOf (content : List Byte) : U32 :=
  be32 (byteAt content 4) (byteAt content 5) (byteAt content 6) (byteAt content 7)

/-- The direction filter and the dispatch of a packet whose CRC is right (R198, R200, R201). -/
def acceptPacket (c : Config) (content : List Byte) (s : State) : State :=
  if c.panelTypes.contains (byteAt content 1) then
    s.report .panelTraffic (((byteAt content 1).setWidth 32 <<< 16) ||| (codeOf content).setWidth 32)
  else dispatch c (codeOf content) (dataOf content) s

/-- The second length check fails (R196). -/
def badContentLength (c : Config) (content : List Byte) : Bool :=
  content.length < 8 || (c.strictLen && content.length != 8)

/-- DECODE after unescaping (R194 to R200): `p` is the unescaped sequence. -/
def checkPacket (c : Config) (p : List Byte) (s : State) : State :=
  if p.length < 2 then s.report .frameTooShort 1#32
  else
    let content := p.take (p.length - 2)
    let rxCrc := be16 (byteAt p (p.length - 2)) (byteAt p (p.length - 1))
    if badContentLength c content then s.report .frameTooShort 2#32
    else if crc16 content ≠ rxCrc then
      s.report .crcMismatch ((rxCrc.setWidth 32 <<< 16) ||| (crc16 content).setWidth 32)
    else acceptPacket c content s

/-- The bytes between a frame's markers (R192). -/
def frameBody (f : List Byte) : List Byte := (f.drop 1).dropLast

/-- DECODE (R190) of a closed frame: unescape, then check and dispatch; UNESC is empty again before the checks. -/
def decodeFrame (c : Config) (f : List Byte) (s : State) : State :=
  let s1 := unescape (frameBody f) s.clearUnescaped
  checkPacket c s1.unesc s1.clearUnescaped

end Sys2Proof.Machine
end

