-- ==== Sys2Proof/Machine/Assembler.lean ====
section
/-! DEFINITION. The frame assembler (42_frame_assembler.md R172 to R178). -/

namespace Sys2Proof.Machine

open Sys2Proof

/-- The start marker, in either state (R173). -/
def openFrame (s : State) : State := { s with asmState := .inFrame, fbuf := [startByte] }

/-- The assembler idle again, its buffer empty. -/
def dropFrame (s : State) : State := { s with asmState := .waiting, fbuf := [] }

/-- The end marker while IN_FRAME (R174): a closed frame of more than 6 bytes goes to DECODE. -/
def closeFrame (c : Config) (s : State) : State :=
  let f := s.fbuf ++ [endByte]
  if 6 < f.length then decodeFrame c f (dropFrame s) else dropFrame s

/-- The end marker, in either state (R174, R175). -/
def endFrame (c : Config) (s : State) : State :=
  match s.asmState with
  | .waiting => s
  | .inFrame => closeFrame c s

/-- Any other byte (R176 to R178). -/
def plainByte (c : Config) (b : Byte) (s : State) : State :=
  match s.asmState with
  | .waiting => s
  | .inFrame =>
    if s.fbuf.length = c.frameMax - 1 then (dropFrame s).report .frameTooLong 0#32
    else { s with fbuf := s.fbuf ++ [b] }

/-- ASSEMBLE (R172). -/
def assemble (c : Config) (b : Byte) (s : State) : State :=
  if b = startByte then openFrame s
  else if b = endByte then endFrame c s
  else plainByte c b s

end Sys2Proof.Machine
end

