-- ==== Sys2Proof/Machine/Messages.lean ====
section
/-! DEFINITION. The meanings of the message rows: what an accepted packet of each code does (44_field_codec.md R220 to
R239), the part of the RX_BYTE that closes its frame (notes/assumptions/7.md). -/

namespace Sys2Proof.Machine

open Sys2Proof

/-- MSG_HEATER_ENABLE (R225). -/
def execMsgHeaterEnable (data : U32) (s : State) : Host.Outcome State Fault Refusal :=
  .next (receiveFamily Config.chip .f3400 0x3400#16 data s)

/-- MSG_BATH_TIMER_MAXTEMP (R226). -/
def execMsgBathTimerMaxTemp (data : U32) (s : State) : Host.Outcome State Fault Refusal :=
  .next (receiveFamily Config.chip .f4002 0x4002#16 data s)

/-- MSG_PCB_LIMIT (R227). -/
def execMsgPcbLimit (data : U32) (s : State) : Host.Outcome State Fault Refusal :=
  .next (receiveFamily Config.chip .f4003 0x4003#16 data s)

/-- MSG_DATETIME (R228). -/
def execMsgDatetime (data : U32) (s : State) : Host.Outcome State Fault Refusal :=
  .next (receiveFamily Config.chip .f4200 0x4200#16 data s)

/-- MSG_TEMPERATURES (R229). -/
def execMsgTemperatures (data : U32) (s : State) : Host.Outcome State Fault Refusal :=
  .next (receiveFamily Config.chip .f6000 0x6000#16 data s)

/-- MSG_HUMIDITY (R230). -/
def execMsgHumidity (data : U32) (s : State) : Host.Outcome State Fault Refusal :=
  .next (receiveFamily Config.chip .f6001 0x6001#16 data s)

/-- MSG_OPERATION_BLOCKED (R231). -/
def execMsgOperationBlocked (data : U32) (s : State) : Host.Outcome State Fault Refusal :=
  .next (receiveFamily Config.chip .f7000 0x7000#16 data s)

/-- MSG_RELAY_COIL (R232). -/
def execMsgRelayCoil (data : U32) (s : State) : Host.Outcome State Fault Refusal :=
  .next (receiveFamily Config.chip .f7180 0x7180#16 data s)

/-- MSG_TANK_LEVEL (R233). -/
def execMsgTankLevel (data : U32) (s : State) : Host.Outcome State Fault Refusal :=
  .next (receiveFamily Config.chip .f7280 0x7280#16 data s)

/-- MSG_DISALLOWED_WINDOW (R234). -/
def execMsgDisallowedWindow (data : U32) (s : State) : Host.Outcome State Fault Refusal :=
  .next (receiveFamily Config.chip .f9000 0x9000#16 data s)

/-- MSG_TOTAL_UPTIME (R235). -/
def execMsgTotalUptime (data : U32) (s : State) : Host.Outcome State Fault Refusal :=
  .next (receiveFamily Config.chip .f9400 0x9400#16 data s)

/-- MSG_REMAINING_TIME (R236). -/
def execMsgRemainingTime (data : U32) (s : State) : Host.Outcome State Fault Refusal :=
  .next (receiveFamily Config.chip .f9401 0x9401#16 data s)

/-- MSG_DOOR_BLOCK (R237). -/
def execMsgDoorBlock (data : U32) (s : State) : Host.Outcome State Fault Refusal :=
  .next (receiveFamily Config.chip .fB000 0xB000#16 data s)

/-- MSG_SENSOR_FAULT (R238): the code is 0xB600 with low byte `lo`. -/
def execMsgSensorFault (lo : Byte) (data : U32) (s : State) : Host.Outcome State Fault Refusal :=
  .next (receiveFamily Config.chip .fB6 (be16 0xB6#8 lo) data s)

/-- MSG_UNHANDLED (R239): the payload is read by no rule. -/
def execMsgUnhandled (code : U16) (_data : U32) (s : State) : Host.Outcome State Fault Refusal :=
  .next (unhandled code s)

end Sys2Proof.Machine
end

