-- ==== Sys2Proof/Machine/PortOps.lean ====
section
/-! DEFINITION. The eleven port operations, each first as a function of the configuration, then as the meaning of its
row in the modelled block. Every one makes the checks of 60_exceptions.md R361 through `accept`. -/

namespace Sys2Proof.Machine

open Sys2Proof

/-- RESET's body (70_reset_and_hazards.md R380): every register at its reset value but T_LAST_OP, which `accept` has
set to `now`, and FAULT, which stays; the ports' histories and the host's operations are no registers. -/
def resetBody (s : State) : State :=
  { s with
    asmState := .waiting, fbuf := [], rxHist := [], tailArmed := false, tLastRx := none, txq := [],
    heatingStatus := false, coilHeating := false,
    lightTruth := false, heaterTruth := false, truthLearned := false,
    lastCmdLight := none, lastCmdHeater := none,
    btPending := none, btSetT := 0,
    sessionActive := false, sessionStartT := 0, sessionElapsedS := 0, sessionLastPubMin := none,
    lastPubTarget := none, lastPubBt := none,
    caches := {}, codeB6Lo := 0#8, ready := false,
    tLastOp := some s.now, unesc := [] }

/-- RX_BYTE's body (42_frame_assembler.md R170, R171). -/
def rxByteBody (c : Config) (b : Byte) (s : State) : State :=
  assemble c b (tailUpdate c b { s with tLastRx := some s.now })

/-- TICK's body (45_command_queue.md R275): the session first, then the scheduler. -/
def tickBody (c : Config) (rxPending : U16) (s : State) : State := schedule c rxPending (sessionTick c s)

/-- ENQUEUE's body (R270). -/
def enqueueBody (c : Config) (cmd : Cmd) (s : State) : State := push c cmd (fun s => s) s

/-- SET_BATH_TIME's body (47_command_port.md R331, 46_reconciler.md R302). -/
def setBathTimeBody (c : Config) (minutes : Nat) (s : State) : State :=
  let m := clampMinutes minutes
  push c ⟨c.cmdType, 0x4002#16, encBathTime s m⟩
    (fun s => publishBt m { s with btPending := some m, btSetT := s.now }) s

/-- SET_BATH_TEMP's body (R332). -/
def setBathTempBody (c : Config) (celsius : Nat) (s : State) : State :=
  push c ⟨c.cmdType, 0x6000#16, encTemp s (clamp celsius c.tempMinC c.tempMaxC)⟩ (fun s => s) s

/-- SET_MAX_BATH_TEMP's body (R333). -/
def setMaxBathTempBody (c : Config) (celsius : Nat) (s : State) : State :=
  push c ⟨c.cmdType, 0x4002#16, encMaxTemp s (clamp celsius c.maxTempMinC c.maxTempMaxC)⟩ (fun s => s) s

/-- SET_HUM_STEP's body (R334). -/
def setHumStepBody (c : Config) (step : Nat) (s : State) : State :=
  push c ⟨c.cmdType, 0x6001#16, encHumStep s (clamp step 0 10)⟩ (fun s => s) s

/-- SET_HUM_PCT's push (R335). -/
def setHumPctBody (c : Config) (percent : Nat) (s : State) : State :=
  push c ⟨c.cmdType, 0x6001#16, encHumPct s percent⟩ (fun s => s) s

/-- SET_HUM_PCT (R335): its own check, PCT_RANGE, comes after TIME_REGRESS and before anything is written (R361). -/
def setHumPct (c : Config) (percent : Nat) (s : State) : State :=
  let p := clamp percent 0 100
  if !s.timeRegresses && decide (63 < p) then s.refuse .pctRange
  else accept (setHumPctBody c p) s

/-- RESET (R380). -/
def execReset (s : State) : Host.Outcome State Fault Refusal := .next (accept resetBody s)

/-- RX_BYTE (R170). -/
def execRxByte (b : Byte) (s : State) : Host.Outcome State Fault Refusal :=
  .next (accept (rxByteBody Config.chip b) s)

/-- TICK (R275). -/
def execTick (rxPending : U16) (s : State) : Host.Outcome State Fault Refusal :=
  .next (accept (tickBody Config.chip rxPending) s)

/-- ENQUEUE (R270). -/
def execEnqueue (type : Byte) (code : U16) (data : U32) (s : State) : Host.Outcome State Fault Refusal :=
  .next (accept (enqueueBody Config.chip ⟨type, code, data⟩) s)

/-- SET_BATH_TIME (R331). -/
def execSetBathTime (minutes : U16) (s : State) : Host.Outcome State Fault Refusal :=
  .next (accept (setBathTimeBody Config.chip minutes.toNat) s)

/-- SET_BATH_TEMP (R332). -/
def execSetBathTemp (celsius : U16) (s : State) : Host.Outcome State Fault Refusal :=
  .next (accept (setBathTempBody Config.chip celsius.toNat) s)

/-- SET_MAX_BATH_TEMP (R333). -/
def execSetMaxBathTemp (celsius : U16) (s : State) : Host.Outcome State Fault Refusal :=
  .next (accept (setMaxBathTempBody Config.chip celsius.toNat) s)

/-- SET_HUM_STEP (R334). -/
def execSetHumStep (step : Byte) (s : State) : Host.Outcome State Fault Refusal :=
  .next (accept (setHumStepBody Config.chip step.toNat) s)

/-- SET_HUM_PCT (R335). -/
def execSetHumPct (percent : Byte) (s : State) : Host.Outcome State Fault Refusal :=
  .next (setHumPct Config.chip percent.toNat s)

/-- SET_LIGHT (R336). -/
def execSetLight (on : Bool) (s : State) : Host.Outcome State Fault Refusal :=
  .next (accept (relaySet Config.chip .light on) s)

/-- SET_HEATER (R337). -/
def execSetHeater (on : Bool) (s : State) : Host.Outcome State Fault Refusal :=
  .next (accept (relaySet Config.chip .heater on) s)

end Sys2Proof.Machine
end

