-- ==== Sys2Proof/Machine/WireRows.lean ====
section
/-! DEFINITION. The meanings of the marker and escape rows: the parts of an RX_BYTE that these encodings select
(notes/assumptions/7.md). -/

namespace Sys2Proof.Machine

open Sys2Proof

/-- START_MARKER (R173). -/
def execStartMarker (s : State) : Host.Outcome State Fault Refusal := .next (openFrame s)

/-- END_MARKER (R174, R175). -/
def execEndMarker (s : State) : Host.Outcome State Fault Refusal := .next (endFrame Config.chip s)

/-- ESC_END_MARKER (R151): the pair 91 63 puts out 0x9C. -/
def execEscEndMarker (s : State) : Host.Outcome State Fault Refusal := .next (unescapePair 0x63#8 s)

/-- ESC_START_MARKER (R151): the pair 91 67 puts out 0x98. -/
def execEscStartMarker (s : State) : Host.Outcome State Fault Refusal := .next (unescapePair 0x67#8 s)

/-- ESC_ESCAPE (R151): the pair 91 6E puts out 0x91. -/
def execEscEscape (s : State) : Host.Outcome State Fault Refusal := .next (unescapePair 0x6E#8 s)

/-- ESC_UNKNOWN (R156): the pair puts out 0x91, and the diagnostic records the follow byte. -/
def execEscUnknown (follow : Byte) (s : State) : Host.Outcome State Fault Refusal :=
  .next (unescapePair follow s)

end Sys2Proof.Machine
end

