-- ==== Sys2Proof/Machine/Dispatch.lean ====
section
/-! DEFINITION. One arm per instruction. -/

namespace Sys2Proof.Machine

open Sys2Proof

/-- The meaning of an instruction in a state: `s.now` is the operation's timestamp. -/
def exec (i : Instr) (s : State) : Host.Outcome State Fault Refusal :=
  match i with
  | .reset => Sys2Proof.Machine.execReset s
  | .rxByte b => Sys2Proof.Machine.execRxByte b s
  | .tick rxPending => Sys2Proof.Machine.execTick rxPending s
  | .enqueue type code data => Sys2Proof.Machine.execEnqueue type code data s
  | .setBathTime minutes => Sys2Proof.Machine.execSetBathTime minutes s
  | .setBathTemp celsius => Sys2Proof.Machine.execSetBathTemp celsius s
  | .setMaxBathTemp celsius => Sys2Proof.Machine.execSetMaxBathTemp celsius s
  | .setHumStep step => Sys2Proof.Machine.execSetHumStep step s
  | .setHumPct percent => Sys2Proof.Machine.execSetHumPct percent s
  | .setLight on => Sys2Proof.Machine.execSetLight on s
  | .setHeater on => Sys2Proof.Machine.execSetHeater on s
  | .startMarker => Sys2Proof.Machine.execStartMarker s
  | .endMarker => Sys2Proof.Machine.execEndMarker s
  | .escEndMarker => Sys2Proof.Machine.execEscEndMarker s
  | .escStartMarker => Sys2Proof.Machine.execEscStartMarker s
  | .escEscape => Sys2Proof.Machine.execEscEscape s
  | .escUnknown follow => Sys2Proof.Machine.execEscUnknown follow s
  | .msgHeaterEnable data => Sys2Proof.Machine.execMsgHeaterEnable data s
  | .msgBathTimerMaxTemp data => Sys2Proof.Machine.execMsgBathTimerMaxTemp data s
  | .msgPcbLimit data => Sys2Proof.Machine.execMsgPcbLimit data s
  | .msgDatetime data => Sys2Proof.Machine.execMsgDatetime data s
  | .msgTemperatures data => Sys2Proof.Machine.execMsgTemperatures data s
  | .msgHumidity data => Sys2Proof.Machine.execMsgHumidity data s
  | .msgOperationBlocked data => Sys2Proof.Machine.execMsgOperationBlocked data s
  | .msgRelayCoil data => Sys2Proof.Machine.execMsgRelayCoil data s
  | .msgTankLevel data => Sys2Proof.Machine.execMsgTankLevel data s
  | .msgDisallowedWindow data => Sys2Proof.Machine.execMsgDisallowedWindow data s
  | .msgTotalUptime data => Sys2Proof.Machine.execMsgTotalUptime data s
  | .msgRemainingTime data => Sys2Proof.Machine.execMsgRemainingTime data s
  | .msgDoorBlock data => Sys2Proof.Machine.execMsgDoorBlock data s
  | .msgSensorFault lo data => Sys2Proof.Machine.execMsgSensorFault lo data s
  | .msgUnhandled code data => Sys2Proof.Machine.execMsgUnhandled code data s

end Sys2Proof.Machine
end

