-- ==== Sys2Proof/Machine/Present.lean ====
section
/-! DEFINITION. How operations reach the block: taking a presented operation (30_encoding.md R100), presenting one,
and the pseudo-operations and the text form of R105 and R106. -/

namespace Sys2Proof.Machine

open Sys2Proof

/-- An operation taken from the input port, its timestamp latched (R100). -/
def State.take (s : State) (op : PortOp) (rest : List PortOp) : State :=
  { s with inputs := rest, now := op.now }

/-- What the input port gives next: nothing, or the decoded operation (its reason, if its word is rejected: R103,
R361) and the state with it taken. -/
def fetch (s : State) : Option (Except RefuseReason Instr × State) :=
  match s.inputs with
  | [] => none
  | op :: rest =>
    match decode (.portWord op.word) with
    | .ok i => some (.ok i, s.take op rest)
    | .error r => some (.error (rejectReason r), s.take op rest)

/-- The port word of an encoding; 0 for a wire format, which has none. -/
def wordOf : Encoded → PortWord
  | .portWord w => w
  | .wireByte _ => 0#64
  | .escapePair _ _ => 0#64
  | .packet _ _ => 0#64

/-- `@now RX b` (R105). -/
def PortOp.rx (now : Nat) (b : Byte) : PortOp := ⟨wordOf (encode (.rxByte b)), now⟩

/-- `@now TICK` with no operand: rx_pending = 0 (R106). -/
def PortOp.tick0 (now : Nat) : PortOp := ⟨wordOf (encode (.tick 0#16)), now⟩

/-- `@now RXS b0 b1 ...`: one RX_BYTE per byte, all at one timestamp (R106). -/
def rxs (now : Nat) (bytes : List Byte) : List PortOp := bytes.map (PortOp.rx now)

/-- `@now RXPKT a ty cccc dddddddd` (R106). -/
def rxpkt (now : Nat) (address type : Byte) (code : U16) (data : U32) : List PortOp :=
  rxs now (frameOf address type code data)

/-- A timestamp at which the next operation does not regress (R392): T_LAST_OP, or the latch's. -/
def State.nextNow (s : State) : Nat := s.tLastOp.getD s.now

/-- The host presents one more operation, to be taken first. -/
def State.presentFirst (s : State) (w : PortWord) : State :=
  { s with inputs := ⟨w, s.nextNow⟩ :: s.inputs }

/-- An open frame with these bytes after its start marker, and its end marker presented. -/
def State.presentClosing (s : State) (body : List Byte) : State :=
  ({ s with asmState := .inFrame, fbuf := startByte :: body } : State).presentFirst
    (wordOf (encode (.rxByte endByte)))

/-- What `withFetchWord` does with each format (notes/assumptions/8.md). A pair is followed by three bytes 00, so that
the closed frame is long enough for DECODE (R174); a packet has address 0x40 and the heater-side type 0x06 of
95_test_vectors.md, and its right CRC. -/
def State.present (s : State) : Encoded → State
  | .portWord w => s.presentFirst w
  | .wireByte b => s.presentFirst (wordOf (encode (.rxByte b)))
  | .escapePair first follow => s.presentClosing [first, follow, 0x00#8, 0x00#8, 0x00#8]
  | .packet code data => s.presentClosing (escEncode (packetBytes 0x40#8 0x06#8 code data))

/-- A hexadecimal digit. -/
def hexDigit (n : Nat) : String := String.singleton (Nat.digitChar n).toUpper

/-- `k` hexadecimal digits of `n`, without a leading sign (R105). -/
def hexText : Nat → Nat → String
  | 0, _ => ""
  | k + 1, n => hexText k (n / 16) ++ hexDigit (n % 16)

/-- The text of a port operation's mnemonic and operands (R105); the wire rows are no operations and have none. R105
leaves the radix of TICK's rx_pending open: DESIGN CHOICE, decimal (notes/assumptions/16.md). -/
def opText : Instr → String
  | .reset => "RESET"
  | .rxByte b => "RX " ++ hexText 2 b.toNat
  | .tick n => "TICK " ++ toString n.toNat
  | .enqueue t c d => "ENQ " ++ hexText 2 t.toNat ++ " " ++ hexText 4 c.toNat ++ " " ++ hexText 8 d.toNat
  | .setBathTime m => "SET_BATH_TIME " ++ toString m.toNat
  | .setBathTemp c => "SET_BATH_TEMP " ++ toString c.toNat
  | .setMaxBathTemp c => "SET_MAX_BATH_TEMP " ++ toString c.toNat
  | .setHumStep n => "SET_HUM_STEP " ++ toString n.toNat
  | .setHumPct p => "SET_HUM_PCT " ++ toString p.toNat
  | .setLight on => "SET_LIGHT " ++ toString on.toNat
  | .setHeater on => "SET_HEATER " ++ toString on.toNat
  | .startMarker => ""
  | .endMarker => ""
  | .escEndMarker => ""
  | .escStartMarker => ""
  | .escEscape => ""
  | .escUnknown _ => ""
  | .msgHeaterEnable _ => ""
  | .msgBathTimerMaxTemp _ => ""
  | .msgPcbLimit _ => ""
  | .msgDatetime _ => ""
  | .msgTemperatures _ => ""
  | .msgHumidity _ => ""
  | .msgOperationBlocked _ => ""
  | .msgRelayCoil _ => ""
  | .msgTankLevel _ => ""
  | .msgDisallowedWindow _ => ""
  | .msgTotalUptime _ => ""
  | .msgRemainingTime _ => ""
  | .msgDoorBlock _ => ""
  | .msgSensorFault _ _ => ""
  | .msgUnhandled _ _ => ""

/-- One line of the text form: `@<now> <MNEMONIC> <operands>` (R105). -/
def lineText (now : Nat) (i : Instr) : String := "@" ++ toString now ++ " " ++ opText i

end Sys2Proof.Machine
end

