-- ==== Sys2Proof/Machine/Step.lean ====
section
/-! DEFINITION. One step: the next presented port operation, or nothing (30_encoding.md R100, 20_memory.md R76). -/

namespace Sys2Proof.Machine

open Sys2Proof

/-- Take the oldest presented operation, latch its timestamp, decode it and run it; a rejected word is refused with
its reason (R103, R361). With none presented nothing happens (R371; notes/assumptions/5.md). -/
def step (s : State) : Host.Outcome State Fault Refusal :=
  match fetch s with
  | none => .next s
  | some (.ok i, s') => exec i s'
  | some (.error r, s') => .next (s'.refuse r)

/-- The instruction of a table row where `step` runs it next (notes/assumptions/8.md): a port word is presented; a
marker byte is presented as the RX_BYTE that carries it; an escape pair or a packet stands, received, in an open
frame whose end marker is presented. -/
def State.withFetchWord (s : State) (nbits w : Nat) : State := s.present (layOut nbits w)

end Sys2Proof.Machine
end

