-- ==== Sys2Proof/Laws/State.lean ====
section
/-! SUPPORT. For each named update of the state, what each field is afterwards. -/

namespace Sys2Proof.Machine

open Sys2Proof

variable (s : State)

@[simp] theorem State.emit_asmState (k : EventKind) (v : U32) : (s.emit k v).asmState = s.asmState := rfl
@[simp] theorem State.emit_fbuf (k : EventKind) (v : U32) : (s.emit k v).fbuf = s.fbuf := rfl
@[simp] theorem State.emit_rxHist (k : EventKind) (v : U32) : (s.emit k v).rxHist = s.rxHist := rfl
@[simp] theorem State.emit_tailArmed (k : EventKind) (v : U32) : (s.emit k v).tailArmed = s.tailArmed := rfl
@[simp] theorem State.emit_tLastRx (k : EventKind) (v : U32) : (s.emit k v).tLastRx = s.tLastRx := rfl
@[simp] theorem State.emit_txq (k : EventKind) (v : U32) : (s.emit k v).txq = s.txq := rfl
@[simp] theorem State.emit_heatingStatus (k : EventKind) (v : U32) : (s.emit k v).heatingStatus = s.heatingStatus := rfl
@[simp] theorem State.emit_coilHeating (k : EventKind) (v : U32) : (s.emit k v).coilHeating = s.coilHeating := rfl
@[simp] theorem State.emit_lightTruth (k : EventKind) (v : U32) : (s.emit k v).lightTruth = s.lightTruth := rfl
@[simp] theorem State.emit_heaterTruth (k : EventKind) (v : U32) : (s.emit k v).heaterTruth = s.heaterTruth := rfl
@[simp] theorem State.emit_truthLearned (k : EventKind) (v : U32) : (s.emit k v).truthLearned = s.truthLearned := rfl
@[simp] theorem State.emit_lastCmdLight (k : EventKind) (v : U32) : (s.emit k v).lastCmdLight = s.lastCmdLight := rfl
@[simp] theorem State.emit_lastCmdHeater (k : EventKind) (v : U32) : (s.emit k v).lastCmdHeater = s.lastCmdHeater := rfl
@[simp] theorem State.emit_btPending (k : EventKind) (v : U32) : (s.emit k v).btPending = s.btPending := rfl
@[simp] theorem State.emit_btSetT (k : EventKind) (v : U32) : (s.emit k v).btSetT = s.btSetT := rfl
@[simp] theorem State.emit_sessionActive (k : EventKind) (v : U32) : (s.emit k v).sessionActive = s.sessionActive := rfl
@[simp] theorem State.emit_sessionStartT (k : EventKind) (v : U32) : (s.emit k v).sessionStartT = s.sessionStartT := rfl
@[simp] theorem State.emit_sessionElapsedS (k : EventKind) (v : U32) : (s.emit k v).sessionElapsedS = s.sessionElapsedS := rfl
@[simp] theorem State.emit_sessionLastPubMin (k : EventKind) (v : U32) : (s.emit k v).sessionLastPubMin = s.sessionLastPubMin := rfl
@[simp] theorem State.emit_lastPubTarget (k : EventKind) (v : U32) : (s.emit k v).lastPubTarget = s.lastPubTarget := rfl
@[simp] theorem State.emit_lastPubBt (k : EventKind) (v : U32) : (s.emit k v).lastPubBt = s.lastPubBt := rfl
@[simp] theorem State.emit_caches (k : EventKind) (v : U32) : (s.emit k v).caches = s.caches := rfl
@[simp] theorem State.emit_codeB6Lo (k : EventKind) (v : U32) : (s.emit k v).codeB6Lo = s.codeB6Lo := rfl
@[simp] theorem State.emit_ready (k : EventKind) (v : U32) : (s.emit k v).ready = s.ready := rfl
@[simp] theorem State.emit_fault (k : EventKind) (v : U32) : (s.emit k v).fault = s.fault := rfl
@[simp] theorem State.emit_tLastOp (k : EventKind) (v : U32) : (s.emit k v).tLastOp = s.tLastOp := rfl
@[simp] theorem State.emit_events (k : EventKind) (v : U32) : (s.emit k v).events = s.events ++ [⟨k, v⟩] := rfl
@[simp] theorem State.emit_diags (k : EventKind) (v : U32) : (s.emit k v).diags = s.diags := rfl
@[simp] theorem State.emit_txOut (k : EventKind) (v : U32) : (s.emit k v).txOut = s.txOut := rfl
@[simp] theorem State.emit_inputs (k : EventKind) (v : U32) : (s.emit k v).inputs = s.inputs := rfl
@[simp] theorem State.emit_now (k : EventKind) (v : U32) : (s.emit k v).now = s.now := rfl
@[simp] theorem State.emit_unesc (k : EventKind) (v : U32) : (s.emit k v).unesc = s.unesc := rfl

@[simp] theorem State.report_asmState (k : DiagCode) (v : U32) : (s.report k v).asmState = s.asmState := rfl
@[simp] theorem State.report_fbuf (k : DiagCode) (v : U32) : (s.report k v).fbuf = s.fbuf := rfl
@[simp] theorem State.report_rxHist (k : DiagCode) (v : U32) : (s.report k v).rxHist = s.rxHist := rfl
@[simp] theorem State.report_tailArmed (k : DiagCode) (v : U32) : (s.report k v).tailArmed = s.tailArmed := rfl
@[simp] theorem State.report_tLastRx (k : DiagCode) (v : U32) : (s.report k v).tLastRx = s.tLastRx := rfl
@[simp] theorem State.report_txq (k : DiagCode) (v : U32) : (s.report k v).txq = s.txq := rfl
@[simp] theorem State.report_heatingStatus (k : DiagCode) (v : U32) : (s.report k v).heatingStatus = s.heatingStatus := rfl
@[simp] theorem State.report_coilHeating (k : DiagCode) (v : U32) : (s.report k v).coilHeating = s.coilHeating := rfl
@[simp] theorem State.report_lightTruth (k : DiagCode) (v : U32) : (s.report k v).lightTruth = s.lightTruth := rfl
@[simp] theorem State.report_heaterTruth (k : DiagCode) (v : U32) : (s.report k v).heaterTruth = s.heaterTruth := rfl
@[simp] theorem State.report_truthLearned (k : DiagCode) (v : U32) : (s.report k v).truthLearned = s.truthLearned := rfl
@[simp] theorem State.report_lastCmdLight (k : DiagCode) (v : U32) : (s.report k v).lastCmdLight = s.lastCmdLight := rfl
@[simp] theorem State.report_lastCmdHeater (k : DiagCode) (v : U32) : (s.report k v).lastCmdHeater = s.lastCmdHeater := rfl
@[simp] theorem State.report_btPending (k : DiagCode) (v : U32) : (s.report k v).btPending = s.btPending := rfl
@[simp] theorem State.report_btSetT (k : DiagCode) (v : U32) : (s.report k v).btSetT = s.btSetT := rfl
@[simp] theorem State.report_sessionActive (k : DiagCode) (v : U32) : (s.report k v).sessionActive = s.sessionActive := rfl
@[simp] theorem State.report_sessionStartT (k : DiagCode) (v : U32) : (s.report k v).sessionStartT = s.sessionStartT := rfl
@[simp] theorem State.report_sessionElapsedS (k : DiagCode) (v : U32) : (s.report k v).sessionElapsedS = s.sessionElapsedS := rfl
@[simp] theorem State.report_sessionLastPubMin (k : DiagCode) (v : U32) : (s.report k v).sessionLastPubMin = s.sessionLastPubMin := rfl
@[simp] theorem State.report_lastPubTarget (k : DiagCode) (v : U32) : (s.report k v).lastPubTarget = s.lastPubTarget := rfl
@[simp] theorem State.report_lastPubBt (k : DiagCode) (v : U32) : (s.report k v).lastPubBt = s.lastPubBt := rfl
@[simp] theorem State.report_caches (k : DiagCode) (v : U32) : (s.report k v).caches = s.caches := rfl
@[simp] theorem State.report_codeB6Lo (k : DiagCode) (v : U32) : (s.report k v).codeB6Lo = s.codeB6Lo := rfl
@[simp] theorem State.report_ready (k : DiagCode) (v : U32) : (s.report k v).ready = s.ready := rfl
@[simp] theorem State.report_fault (k : DiagCode) (v : U32) : (s.report k v).fault = s.fault := rfl
@[simp] theorem State.report_tLastOp (k : DiagCode) (v : U32) : (s.report k v).tLastOp = s.tLastOp := rfl
@[simp] theorem State.report_events (k : DiagCode) (v : U32) : (s.report k v).events = s.events := rfl
@[simp] theorem State.report_diags (k : DiagCode) (v : U32) : (s.report k v).diags = s.diags ++ [⟨k, v⟩] := rfl
@[simp] theorem State.report_txOut (k : DiagCode) (v : U32) : (s.report k v).txOut = s.txOut := rfl
@[simp] theorem State.report_inputs (k : DiagCode) (v : U32) : (s.report k v).inputs = s.inputs := rfl
@[simp] theorem State.report_now (k : DiagCode) (v : U32) : (s.report k v).now = s.now := rfl
@[simp] theorem State.report_unesc (k : DiagCode) (v : U32) : (s.report k v).unesc = s.unesc := rfl

@[simp] theorem State.transmit_asmState (f : List Byte) : (s.transmit f).asmState = s.asmState := rfl
@[simp] theorem State.transmit_fbuf (f : List Byte) : (s.transmit f).fbuf = s.fbuf := rfl
@[simp] theorem State.transmit_rxHist (f : List Byte) : (s.transmit f).rxHist = s.rxHist := rfl
@[simp] theorem State.transmit_tailArmed (f : List Byte) : (s.transmit f).tailArmed = s.tailArmed := rfl
@[simp] theorem State.transmit_tLastRx (f : List Byte) : (s.transmit f).tLastRx = s.tLastRx := rfl
@[simp] theorem State.transmit_txq (f : List Byte) : (s.transmit f).txq = s.txq := rfl
@[simp] theorem State.transmit_heatingStatus (f : List Byte) : (s.transmit f).heatingStatus = s.heatingStatus := rfl
@[simp] theorem State.transmit_coilHeating (f : List Byte) : (s.transmit f).coilHeating = s.coilHeating := rfl
@[simp] theorem State.transmit_lightTruth (f : List Byte) : (s.transmit f).lightTruth = s.lightTruth := rfl
@[simp] theorem State.transmit_heaterTruth (f : List Byte) : (s.transmit f).heaterTruth = s.heaterTruth := rfl
@[simp] theorem State.transmit_truthLearned (f : List Byte) : (s.transmit f).truthLearned = s.truthLearned := rfl
@[simp] theorem State.transmit_lastCmdLight (f : List Byte) : (s.transmit f).lastCmdLight = s.lastCmdLight := rfl
@[simp] theorem State.transmit_lastCmdHeater (f : List Byte) : (s.transmit f).lastCmdHeater = s.lastCmdHeater := rfl
@[simp] theorem State.transmit_btPending (f : List Byte) : (s.transmit f).btPending = s.btPending := rfl
@[simp] theorem State.transmit_btSetT (f : List Byte) : (s.transmit f).btSetT = s.btSetT := rfl
@[simp] theorem State.transmit_sessionActive (f : List Byte) : (s.transmit f).sessionActive = s.sessionActive := rfl
@[simp] theorem State.transmit_sessionStartT (f : List Byte) : (s.transmit f).sessionStartT = s.sessionStartT := rfl
@[simp] theorem State.transmit_sessionElapsedS (f : List Byte) : (s.transmit f).sessionElapsedS = s.sessionElapsedS := rfl
@[simp] theorem State.transmit_sessionLastPubMin (f : List Byte) : (s.transmit f).sessionLastPubMin = s.sessionLastPubMin := rfl
@[simp] theorem State.transmit_lastPubTarget (f : List Byte) : (s.transmit f).lastPubTarget = s.lastPubTarget := rfl
@[simp] theorem State.transmit_lastPubBt (f : List Byte) : (s.transmit f).lastPubBt = s.lastPubBt := rfl
@[simp] theorem State.transmit_caches (f : List Byte) : (s.transmit f).caches = s.caches := rfl
@[simp] theorem State.transmit_codeB6Lo (f : List Byte) : (s.transmit f).codeB6Lo = s.codeB6Lo := rfl
@[simp] theorem State.transmit_ready (f : List Byte) : (s.transmit f).ready = s.ready := rfl
@[simp] theorem State.transmit_fault (f : List Byte) : (s.transmit f).fault = s.fault := rfl
@[simp] theorem State.transmit_tLastOp (f : List Byte) : (s.transmit f).tLastOp = s.tLastOp := rfl
@[simp] theorem State.transmit_events (f : List Byte) : (s.transmit f).events = s.events := rfl
@[simp] theorem State.transmit_diags (f : List Byte) : (s.transmit f).diags = s.diags := rfl
@[simp] theorem State.transmit_txOut (f : List Byte) : (s.transmit f).txOut = s.txOut ++ [f] := rfl
@[simp] theorem State.transmit_inputs (f : List Byte) : (s.transmit f).inputs = s.inputs := rfl
@[simp] theorem State.transmit_now (f : List Byte) : (s.transmit f).now = s.now := rfl
@[simp] theorem State.transmit_unesc (f : List Byte) : (s.transmit f).unesc = s.unesc := rfl

@[simp] theorem State.raiseOverflow_asmState : (s.raiseOverflow).asmState = s.asmState := rfl
@[simp] theorem State.raiseOverflow_fbuf : (s.raiseOverflow).fbuf = s.fbuf := rfl
@[simp] theorem State.raiseOverflow_rxHist : (s.raiseOverflow).rxHist = s.rxHist := rfl
@[simp] theorem State.raiseOverflow_tailArmed : (s.raiseOverflow).tailArmed = s.tailArmed := rfl
@[simp] theorem State.raiseOverflow_tLastRx : (s.raiseOverflow).tLastRx = s.tLastRx := rfl
@[simp] theorem State.raiseOverflow_txq : (s.raiseOverflow).txq = s.txq := rfl
@[simp] theorem State.raiseOverflow_heatingStatus : (s.raiseOverflow).heatingStatus = s.heatingStatus := rfl
@[simp] theorem State.raiseOverflow_coilHeating : (s.raiseOverflow).coilHeating = s.coilHeating := rfl
@[simp] theorem State.raiseOverflow_lightTruth : (s.raiseOverflow).lightTruth = s.lightTruth := rfl
@[simp] theorem State.raiseOverflow_heaterTruth : (s.raiseOverflow).heaterTruth = s.heaterTruth := rfl
@[simp] theorem State.raiseOverflow_truthLearned : (s.raiseOverflow).truthLearned = s.truthLearned := rfl
@[simp] theorem State.raiseOverflow_lastCmdLight : (s.raiseOverflow).lastCmdLight = s.lastCmdLight := rfl
@[simp] theorem State.raiseOverflow_lastCmdHeater : (s.raiseOverflow).lastCmdHeater = s.lastCmdHeater := rfl
@[simp] theorem State.raiseOverflow_btPending : (s.raiseOverflow).btPending = s.btPending := rfl
@[simp] theorem State.raiseOverflow_btSetT : (s.raiseOverflow).btSetT = s.btSetT := rfl
@[simp] theorem State.raiseOverflow_sessionActive : (s.raiseOverflow).sessionActive = s.sessionActive := rfl
@[simp] theorem State.raiseOverflow_sessionStartT : (s.raiseOverflow).sessionStartT = s.sessionStartT := rfl
@[simp] theorem State.raiseOverflow_sessionElapsedS : (s.raiseOverflow).sessionElapsedS = s.sessionElapsedS := rfl
@[simp] theorem State.raiseOverflow_sessionLastPubMin : (s.raiseOverflow).sessionLastPubMin = s.sessionLastPubMin := rfl
@[simp] theorem State.raiseOverflow_lastPubTarget : (s.raiseOverflow).lastPubTarget = s.lastPubTarget := rfl
@[simp] theorem State.raiseOverflow_lastPubBt : (s.raiseOverflow).lastPubBt = s.lastPubBt := rfl
@[simp] theorem State.raiseOverflow_caches : (s.raiseOverflow).caches = s.caches := rfl
@[simp] theorem State.raiseOverflow_codeB6Lo : (s.raiseOverflow).codeB6Lo = s.codeB6Lo := rfl
@[simp] theorem State.raiseOverflow_ready : (s.raiseOverflow).ready = s.ready := rfl
@[simp] theorem State.raiseOverflow_fault : (s.raiseOverflow).fault = { s.fault with queueOverflow := true } := rfl
@[simp] theorem State.raiseOverflow_tLastOp : (s.raiseOverflow).tLastOp = s.tLastOp := rfl
@[simp] theorem State.raiseOverflow_events : (s.raiseOverflow).events = s.events := rfl
@[simp] theorem State.raiseOverflow_diags : (s.raiseOverflow).diags = s.diags := rfl
@[simp] theorem State.raiseOverflow_txOut : (s.raiseOverflow).txOut = s.txOut := rfl
@[simp] theorem State.raiseOverflow_inputs : (s.raiseOverflow).inputs = s.inputs := rfl
@[simp] theorem State.raiseOverflow_now : (s.raiseOverflow).now = s.now := rfl
@[simp] theorem State.raiseOverflow_unesc : (s.raiseOverflow).unesc = s.unesc := rfl

@[simp] theorem State.refuse_asmState (r : RefuseReason) : (s.refuse r).asmState = s.asmState := rfl
@[simp] theorem State.refuse_fbuf (r : RefuseReason) : (s.refuse r).fbuf = s.fbuf := rfl
@[simp] theorem State.refuse_rxHist (r : RefuseReason) : (s.refuse r).rxHist = s.rxHist := rfl
@[simp] theorem State.refuse_tailArmed (r : RefuseReason) : (s.refuse r).tailArmed = s.tailArmed := rfl
@[simp] theorem State.refuse_tLastRx (r : RefuseReason) : (s.refuse r).tLastRx = s.tLastRx := rfl
@[simp] theorem State.refuse_txq (r : RefuseReason) : (s.refuse r).txq = s.txq := rfl
@[simp] theorem State.refuse_heatingStatus (r : RefuseReason) : (s.refuse r).heatingStatus = s.heatingStatus := rfl
@[simp] theorem State.refuse_coilHeating (r : RefuseReason) : (s.refuse r).coilHeating = s.coilHeating := rfl
@[simp] theorem State.refuse_lightTruth (r : RefuseReason) : (s.refuse r).lightTruth = s.lightTruth := rfl
@[simp] theorem State.refuse_heaterTruth (r : RefuseReason) : (s.refuse r).heaterTruth = s.heaterTruth := rfl
@[simp] theorem State.refuse_truthLearned (r : RefuseReason) : (s.refuse r).truthLearned = s.truthLearned := rfl
@[simp] theorem State.refuse_lastCmdLight (r : RefuseReason) : (s.refuse r).lastCmdLight = s.lastCmdLight := rfl
@[simp] theorem State.refuse_lastCmdHeater (r : RefuseReason) : (s.refuse r).lastCmdHeater = s.lastCmdHeater := rfl
@[simp] theorem State.refuse_btPending (r : RefuseReason) : (s.refuse r).btPending = s.btPending := rfl
@[simp] theorem State.refuse_btSetT (r : RefuseReason) : (s.refuse r).btSetT = s.btSetT := rfl
@[simp] theorem State.refuse_sessionActive (r : RefuseReason) : (s.refuse r).sessionActive = s.sessionActive := rfl
@[simp] theorem State.refuse_sessionStartT (r : RefuseReason) : (s.refuse r).sessionStartT = s.sessionStartT := rfl
@[simp] theorem State.refuse_sessionElapsedS (r : RefuseReason) : (s.refuse r).sessionElapsedS = s.sessionElapsedS := rfl
@[simp] theorem State.refuse_sessionLastPubMin (r : RefuseReason) : (s.refuse r).sessionLastPubMin = s.sessionLastPubMin := rfl
@[simp] theorem State.refuse_lastPubTarget (r : RefuseReason) : (s.refuse r).lastPubTarget = s.lastPubTarget := rfl
@[simp] theorem State.refuse_lastPubBt (r : RefuseReason) : (s.refuse r).lastPubBt = s.lastPubBt := rfl
@[simp] theorem State.refuse_caches (r : RefuseReason) : (s.refuse r).caches = s.caches := rfl
@[simp] theorem State.refuse_codeB6Lo (r : RefuseReason) : (s.refuse r).codeB6Lo = s.codeB6Lo := rfl
@[simp] theorem State.refuse_ready (r : RefuseReason) : (s.refuse r).ready = s.ready := rfl
@[simp] theorem State.refuse_fault (r : RefuseReason) : (s.refuse r).fault = s.fault.mark r := rfl
@[simp] theorem State.refuse_tLastOp (r : RefuseReason) : (s.refuse r).tLastOp = s.tLastOp := rfl
@[simp] theorem State.refuse_events (r : RefuseReason) : (s.refuse r).events = s.events := rfl
@[simp] theorem State.refuse_diags (r : RefuseReason) : (s.refuse r).diags = s.diags := rfl
@[simp] theorem State.refuse_txOut (r : RefuseReason) : (s.refuse r).txOut = s.txOut := rfl
@[simp] theorem State.refuse_inputs (r : RefuseReason) : (s.refuse r).inputs = s.inputs := rfl
@[simp] theorem State.refuse_now (r : RefuseReason) : (s.refuse r).now = s.now := rfl
@[simp] theorem State.refuse_unesc (r : RefuseReason) : (s.refuse r).unesc = s.unesc := rfl

@[simp] theorem State.noteOp_asmState : (s.noteOp).asmState = s.asmState := rfl
@[simp] theorem State.noteOp_fbuf : (s.noteOp).fbuf = s.fbuf := rfl
@[simp] theorem State.noteOp_rxHist : (s.noteOp).rxHist = s.rxHist := rfl
@[simp] theorem State.noteOp_tailArmed : (s.noteOp).tailArmed = s.tailArmed := rfl
@[simp] theorem State.noteOp_tLastRx : (s.noteOp).tLastRx = s.tLastRx := rfl
@[simp] theorem State.noteOp_txq : (s.noteOp).txq = s.txq := rfl
@[simp] theorem State.noteOp_heatingStatus : (s.noteOp).heatingStatus = s.heatingStatus := rfl
@[simp] theorem State.noteOp_coilHeating : (s.noteOp).coilHeating = s.coilHeating := rfl
@[simp] theorem State.noteOp_lightTruth : (s.noteOp).lightTruth = s.lightTruth := rfl
@[simp] theorem State.noteOp_heaterTruth : (s.noteOp).heaterTruth = s.heaterTruth := rfl
@[simp] theorem State.noteOp_truthLearned : (s.noteOp).truthLearned = s.truthLearned := rfl
@[simp] theorem State.noteOp_lastCmdLight : (s.noteOp).lastCmdLight = s.lastCmdLight := rfl
@[simp] theorem State.noteOp_lastCmdHeater : (s.noteOp).lastCmdHeater = s.lastCmdHeater := rfl
@[simp] theorem State.noteOp_btPending : (s.noteOp).btPending = s.btPending := rfl
@[simp] theorem State.noteOp_btSetT : (s.noteOp).btSetT = s.btSetT := rfl
@[simp] theorem State.noteOp_sessionActive : (s.noteOp).sessionActive = s.sessionActive := rfl
@[simp] theorem State.noteOp_sessionStartT : (s.noteOp).sessionStartT = s.sessionStartT := rfl
@[simp] theorem State.noteOp_sessionElapsedS : (s.noteOp).sessionElapsedS = s.sessionElapsedS := rfl
@[simp] theorem State.noteOp_sessionLastPubMin : (s.noteOp).sessionLastPubMin = s.sessionLastPubMin := rfl
@[simp] theorem State.noteOp_lastPubTarget : (s.noteOp).lastPubTarget = s.lastPubTarget := rfl
@[simp] theorem State.noteOp_lastPubBt : (s.noteOp).lastPubBt = s.lastPubBt := rfl
@[simp] theorem State.noteOp_caches : (s.noteOp).caches = s.caches := rfl
@[simp] theorem State.noteOp_codeB6Lo : (s.noteOp).codeB6Lo = s.codeB6Lo := rfl
@[simp] theorem State.noteOp_ready : (s.noteOp).ready = s.ready := rfl
@[simp] theorem State.noteOp_fault : (s.noteOp).fault = s.fault := rfl
@[simp] theorem State.noteOp_tLastOp : (s.noteOp).tLastOp = some s.now := rfl
@[simp] theorem State.noteOp_events : (s.noteOp).events = s.events := rfl
@[simp] theorem State.noteOp_diags : (s.noteOp).diags = s.diags := rfl
@[simp] theorem State.noteOp_txOut : (s.noteOp).txOut = s.txOut := rfl
@[simp] theorem State.noteOp_inputs : (s.noteOp).inputs = s.inputs := rfl
@[simp] theorem State.noteOp_now : (s.noteOp).now = s.now := rfl
@[simp] theorem State.noteOp_unesc : (s.noteOp).unesc = s.unesc := rfl

@[simp] theorem State.writeCache_asmState (f : Family) (d : U32) : (s.writeCache f d).asmState = s.asmState := rfl
@[simp] theorem State.writeCache_fbuf (f : Family) (d : U32) : (s.writeCache f d).fbuf = s.fbuf := rfl
@[simp] theorem State.writeCache_rxHist (f : Family) (d : U32) : (s.writeCache f d).rxHist = s.rxHist := rfl
@[simp] theorem State.writeCache_tailArmed (f : Family) (d : U32) : (s.writeCache f d).tailArmed = s.tailArmed := rfl
@[simp] theorem State.writeCache_tLastRx (f : Family) (d : U32) : (s.writeCache f d).tLastRx = s.tLastRx := rfl
@[simp] theorem State.writeCache_txq (f : Family) (d : U32) : (s.writeCache f d).txq = s.txq := rfl
@[simp] theorem State.writeCache_heatingStatus (f : Family) (d : U32) : (s.writeCache f d).heatingStatus = s.heatingStatus := rfl
@[simp] theorem State.writeCache_coilHeating (f : Family) (d : U32) : (s.writeCache f d).coilHeating = s.coilHeating := rfl
@[simp] theorem State.writeCache_lightTruth (f : Family) (d : U32) : (s.writeCache f d).lightTruth = s.lightTruth := rfl
@[simp] theorem State.writeCache_heaterTruth (f : Family) (d : U32) : (s.writeCache f d).heaterTruth = s.heaterTruth := rfl
@[simp] theorem State.writeCache_truthLearned (f : Family) (d : U32) : (s.writeCache f d).truthLearned = s.truthLearned := rfl
@[simp] theorem State.writeCache_lastCmdLight (f : Family) (d : U32) : (s.writeCache f d).lastCmdLight = s.lastCmdLight := rfl
@[simp] theorem State.writeCache_lastCmdHeater (f : Family) (d : U32) : (s.writeCache f d).lastCmdHeater = s.lastCmdHeater := rfl
@[simp] theorem State.writeCache_btPending (f : Family) (d : U32) : (s.writeCache f d).btPending = s.btPending := rfl
@[simp] theorem State.writeCache_btSetT (f : Family) (d : U32) : (s.writeCache f d).btSetT = s.btSetT := rfl
@[simp] theorem State.writeCache_sessionActive (f : Family) (d : U32) : (s.writeCache f d).sessionActive = s.sessionActive := rfl
@[simp] theorem State.writeCache_sessionStartT (f : Family) (d : U32) : (s.writeCache f d).sessionStartT = s.sessionStartT := rfl
@[simp] theorem State.writeCache_sessionElapsedS (f : Family) (d : U32) : (s.writeCache f d).sessionElapsedS = s.sessionElapsedS := rfl
@[simp] theorem State.writeCache_sessionLastPubMin (f : Family) (d : U32) : (s.writeCache f d).sessionLastPubMin = s.sessionLastPubMin := rfl
@[simp] theorem State.writeCache_lastPubTarget (f : Family) (d : U32) : (s.writeCache f d).lastPubTarget = s.lastPubTarget := rfl
@[simp] theorem State.writeCache_lastPubBt (f : Family) (d : U32) : (s.writeCache f d).lastPubBt = s.lastPubBt := rfl
@[simp] theorem State.writeCache_caches (f : Family) (d : U32) : (s.writeCache f d).caches = s.caches.set f ⟨d, true⟩ := rfl
@[simp] theorem State.writeCache_codeB6Lo (f : Family) (d : U32) : (s.writeCache f d).codeB6Lo = s.codeB6Lo := rfl
@[simp] theorem State.writeCache_ready (f : Family) (d : U32) : (s.writeCache f d).ready = s.ready := rfl
@[simp] theorem State.writeCache_fault (f : Family) (d : U32) : (s.writeCache f d).fault = s.fault := rfl
@[simp] theorem State.writeCache_tLastOp (f : Family) (d : U32) : (s.writeCache f d).tLastOp = s.tLastOp := rfl
@[simp] theorem State.writeCache_events (f : Family) (d : U32) : (s.writeCache f d).events = s.events := rfl
@[simp] theorem State.writeCache_diags (f : Family) (d : U32) : (s.writeCache f d).diags = s.diags := rfl
@[simp] theorem State.writeCache_txOut (f : Family) (d : U32) : (s.writeCache f d).txOut = s.txOut := rfl
@[simp] theorem State.writeCache_inputs (f : Family) (d : U32) : (s.writeCache f d).inputs = s.inputs := rfl
@[simp] theorem State.writeCache_now (f : Family) (d : U32) : (s.writeCache f d).now = s.now := rfl
@[simp] theorem State.writeCache_unesc (f : Family) (d : U32) : (s.writeCache f d).unesc = s.unesc := rfl

@[simp] theorem State.outUnescaped_asmState (b : Byte) : (s.outUnescaped b).asmState = s.asmState := rfl
@[simp] theorem State.outUnescaped_fbuf (b : Byte) : (s.outUnescaped b).fbuf = s.fbuf := rfl
@[simp] theorem State.outUnescaped_rxHist (b : Byte) : (s.outUnescaped b).rxHist = s.rxHist := rfl
@[simp] theorem State.outUnescaped_tailArmed (b : Byte) : (s.outUnescaped b).tailArmed = s.tailArmed := rfl
@[simp] theorem State.outUnescaped_tLastRx (b : Byte) : (s.outUnescaped b).tLastRx = s.tLastRx := rfl
@[simp] theorem State.outUnescaped_txq (b : Byte) : (s.outUnescaped b).txq = s.txq := rfl
@[simp] theorem State.outUnescaped_heatingStatus (b : Byte) : (s.outUnescaped b).heatingStatus = s.heatingStatus := rfl
@[simp] theorem State.outUnescaped_coilHeating (b : Byte) : (s.outUnescaped b).coilHeating = s.coilHeating := rfl
@[simp] theorem State.outUnescaped_lightTruth (b : Byte) : (s.outUnescaped b).lightTruth = s.lightTruth := rfl
@[simp] theorem State.outUnescaped_heaterTruth (b : Byte) : (s.outUnescaped b).heaterTruth = s.heaterTruth := rfl
@[simp] theorem State.outUnescaped_truthLearned (b : Byte) : (s.outUnescaped b).truthLearned = s.truthLearned := rfl
@[simp] theorem State.outUnescaped_lastCmdLight (b : Byte) : (s.outUnescaped b).lastCmdLight = s.lastCmdLight := rfl
@[simp] theorem State.outUnescaped_lastCmdHeater (b : Byte) : (s.outUnescaped b).lastCmdHeater = s.lastCmdHeater := rfl
@[simp] theorem State.outUnescaped_btPending (b : Byte) : (s.outUnescaped b).btPending = s.btPending := rfl
@[simp] theorem State.outUnescaped_btSetT (b : Byte) : (s.outUnescaped b).btSetT = s.btSetT := rfl
@[simp] theorem State.outUnescaped_sessionActive (b : Byte) : (s.outUnescaped b).sessionActive = s.sessionActive := rfl
@[simp] theorem State.outUnescaped_sessionStartT (b : Byte) : (s.outUnescaped b).sessionStartT = s.sessionStartT := rfl
@[simp] theorem State.outUnescaped_sessionElapsedS (b : Byte) : (s.outUnescaped b).sessionElapsedS = s.sessionElapsedS := rfl
@[simp] theorem State.outUnescaped_sessionLastPubMin (b : Byte) : (s.outUnescaped b).sessionLastPubMin = s.sessionLastPubMin := rfl
@[simp] theorem State.outUnescaped_lastPubTarget (b : Byte) : (s.outUnescaped b).lastPubTarget = s.lastPubTarget := rfl
@[simp] theorem State.outUnescaped_lastPubBt (b : Byte) : (s.outUnescaped b).lastPubBt = s.lastPubBt := rfl
@[simp] theorem State.outUnescaped_caches (b : Byte) : (s.outUnescaped b).caches = s.caches := rfl
@[simp] theorem State.outUnescaped_codeB6Lo (b : Byte) : (s.outUnescaped b).codeB6Lo = s.codeB6Lo := rfl
@[simp] theorem State.outUnescaped_ready (b : Byte) : (s.outUnescaped b).ready = s.ready := rfl
@[simp] theorem State.outUnescaped_fault (b : Byte) : (s.outUnescaped b).fault = s.fault := rfl
@[simp] theorem State.outUnescaped_tLastOp (b : Byte) : (s.outUnescaped b).tLastOp = s.tLastOp := rfl
@[simp] theorem State.outUnescaped_events (b : Byte) : (s.outUnescaped b).events = s.events := rfl
@[simp] theorem State.outUnescaped_diags (b : Byte) : (s.outUnescaped b).diags = s.diags := rfl
@[simp] theorem State.outUnescaped_txOut (b : Byte) : (s.outUnescaped b).txOut = s.txOut := rfl
@[simp] theorem State.outUnescaped_inputs (b : Byte) : (s.outUnescaped b).inputs = s.inputs := rfl
@[simp] theorem State.outUnescaped_now (b : Byte) : (s.outUnescaped b).now = s.now := rfl
@[simp] theorem State.outUnescaped_unesc (b : Byte) : (s.outUnescaped b).unesc = s.unesc ++ [b] := rfl

@[simp] theorem State.clearUnescaped_asmState : (s.clearUnescaped).asmState = s.asmState := rfl
@[simp] theorem State.clearUnescaped_fbuf : (s.clearUnescaped).fbuf = s.fbuf := rfl
@[simp] theorem State.clearUnescaped_rxHist : (s.clearUnescaped).rxHist = s.rxHist := rfl
@[simp] theorem State.clearUnescaped_tailArmed : (s.clearUnescaped).tailArmed = s.tailArmed := rfl
@[simp] theorem State.clearUnescaped_tLastRx : (s.clearUnescaped).tLastRx = s.tLastRx := rfl
@[simp] theorem State.clearUnescaped_txq : (s.clearUnescaped).txq = s.txq := rfl
@[simp] theorem State.clearUnescaped_heatingStatus : (s.clearUnescaped).heatingStatus = s.heatingStatus := rfl
@[simp] theorem State.clearUnescaped_coilHeating : (s.clearUnescaped).coilHeating = s.coilHeating := rfl
@[simp] theorem State.clearUnescaped_lightTruth : (s.clearUnescaped).lightTruth = s.lightTruth := rfl
@[simp] theorem State.clearUnescaped_heaterTruth : (s.clearUnescaped).heaterTruth = s.heaterTruth := rfl
@[simp] theorem State.clearUnescaped_truthLearned : (s.clearUnescaped).truthLearned = s.truthLearned := rfl
@[simp] theorem State.clearUnescaped_lastCmdLight : (s.clearUnescaped).lastCmdLight = s.lastCmdLight := rfl
@[simp] theorem State.clearUnescaped_lastCmdHeater : (s.clearUnescaped).lastCmdHeater = s.lastCmdHeater := rfl
@[simp] theorem State.clearUnescaped_btPending : (s.clearUnescaped).btPending = s.btPending := rfl
@[simp] theorem State.clearUnescaped_btSetT : (s.clearUnescaped).btSetT = s.btSetT := rfl
@[simp] theorem State.clearUnescaped_sessionActive : (s.clearUnescaped).sessionActive = s.sessionActive := rfl
@[simp] theorem State.clearUnescaped_sessionStartT : (s.clearUnescaped).sessionStartT = s.sessionStartT := rfl
@[simp] theorem State.clearUnescaped_sessionElapsedS : (s.clearUnescaped).sessionElapsedS = s.sessionElapsedS := rfl
@[simp] theorem State.clearUnescaped_sessionLastPubMin : (s.clearUnescaped).sessionLastPubMin = s.sessionLastPubMin := rfl
@[simp] theorem State.clearUnescaped_lastPubTarget : (s.clearUnescaped).lastPubTarget = s.lastPubTarget := rfl
@[simp] theorem State.clearUnescaped_lastPubBt : (s.clearUnescaped).lastPubBt = s.lastPubBt := rfl
@[simp] theorem State.clearUnescaped_caches : (s.clearUnescaped).caches = s.caches := rfl
@[simp] theorem State.clearUnescaped_codeB6Lo : (s.clearUnescaped).codeB6Lo = s.codeB6Lo := rfl
@[simp] theorem State.clearUnescaped_ready : (s.clearUnescaped).ready = s.ready := rfl
@[simp] theorem State.clearUnescaped_fault : (s.clearUnescaped).fault = s.fault := rfl
@[simp] theorem State.clearUnescaped_tLastOp : (s.clearUnescaped).tLastOp = s.tLastOp := rfl
@[simp] theorem State.clearUnescaped_events : (s.clearUnescaped).events = s.events := rfl
@[simp] theorem State.clearUnescaped_diags : (s.clearUnescaped).diags = s.diags := rfl
@[simp] theorem State.clearUnescaped_txOut : (s.clearUnescaped).txOut = s.txOut := rfl
@[simp] theorem State.clearUnescaped_inputs : (s.clearUnescaped).inputs = s.inputs := rfl
@[simp] theorem State.clearUnescaped_now : (s.clearUnescaped).now = s.now := rfl
@[simp] theorem State.clearUnescaped_unesc : (s.clearUnescaped).unesc = [] := rfl

@[simp] theorem State.take_asmState (op : PortOp) (rest : List PortOp) : (s.take op rest).asmState = s.asmState := rfl
@[simp] theorem State.take_fbuf (op : PortOp) (rest : List PortOp) : (s.take op rest).fbuf = s.fbuf := rfl
@[simp] theorem State.take_rxHist (op : PortOp) (rest : List PortOp) : (s.take op rest).rxHist = s.rxHist := rfl
@[simp] theorem State.take_tailArmed (op : PortOp) (rest : List PortOp) : (s.take op rest).tailArmed = s.tailArmed := rfl
@[simp] theorem State.take_tLastRx (op : PortOp) (rest : List PortOp) : (s.take op rest).tLastRx = s.tLastRx := rfl
@[simp] theorem State.take_txq (op : PortOp) (rest : List PortOp) : (s.take op rest).txq = s.txq := rfl
@[simp] theorem State.take_heatingStatus (op : PortOp) (rest : List PortOp) : (s.take op rest).heatingStatus = s.heatingStatus := rfl
@[simp] theorem State.take_coilHeating (op : PortOp) (rest : List PortOp) : (s.take op rest).coilHeating = s.coilHeating := rfl
@[simp] theorem State.take_lightTruth (op : PortOp) (rest : List PortOp) : (s.take op rest).lightTruth = s.lightTruth := rfl
@[simp] theorem State.take_heaterTruth (op : PortOp) (rest : List PortOp) : (s.take op rest).heaterTruth = s.heaterTruth := rfl
@[simp] theorem State.take_truthLearned (op : PortOp) (rest : List PortOp) : (s.take op rest).truthLearned = s.truthLearned := rfl
@[simp] theorem State.take_lastCmdLight (op : PortOp) (rest : List PortOp) : (s.take op rest).lastCmdLight = s.lastCmdLight := rfl
@[simp] theorem State.take_lastCmdHeater (op : PortOp) (rest : List PortOp) : (s.take op rest).lastCmdHeater = s.lastCmdHeater := rfl
@[simp] theorem State.take_btPending (op : PortOp) (rest : List PortOp) : (s.take op rest).btPending = s.btPending := rfl
@[simp] theorem State.take_btSetT (op : PortOp) (rest : List PortOp) : (s.take op rest).btSetT = s.btSetT := rfl
@[simp] theorem State.take_sessionActive (op : PortOp) (rest : List PortOp) : (s.take op rest).sessionActive = s.sessionActive := rfl
@[simp] theorem State.take_sessionStartT (op : PortOp) (rest : List PortOp) : (s.take op rest).sessionStartT = s.sessionStartT := rfl
@[simp] theorem State.take_sessionElapsedS (op : PortOp) (rest : List PortOp) : (s.take op rest).sessionElapsedS = s.sessionElapsedS := rfl
@[simp] theorem State.take_sessionLastPubMin (op : PortOp) (rest : List PortOp) : (s.take op rest).sessionLastPubMin = s.sessionLastPubMin := rfl
@[simp] theorem State.take_lastPubTarget (op : PortOp) (rest : List PortOp) : (s.take op rest).lastPubTarget = s.lastPubTarget := rfl
@[simp] theorem State.take_lastPubBt (op : PortOp) (rest : List PortOp) : (s.take op rest).lastPubBt = s.lastPubBt := rfl
@[simp] theorem State.take_caches (op : PortOp) (rest : List PortOp) : (s.take op rest).caches = s.caches := rfl
@[simp] theorem State.take_codeB6Lo (op : PortOp) (rest : List PortOp) : (s.take op rest).codeB6Lo = s.codeB6Lo := rfl
@[simp] theorem State.take_ready (op : PortOp) (rest : List PortOp) : (s.take op rest).ready = s.ready := rfl
@[simp] theorem State.take_fault (op : PortOp) (rest : List PortOp) : (s.take op rest).fault = s.fault := rfl
@[simp] theorem State.take_tLastOp (op : PortOp) (rest : List PortOp) : (s.take op rest).tLastOp = s.tLastOp := rfl
@[simp] theorem State.take_events (op : PortOp) (rest : List PortOp) : (s.take op rest).events = s.events := rfl
@[simp] theorem State.take_diags (op : PortOp) (rest : List PortOp) : (s.take op rest).diags = s.diags := rfl
@[simp] theorem State.take_txOut (op : PortOp) (rest : List PortOp) : (s.take op rest).txOut = s.txOut := rfl
@[simp] theorem State.take_inputs (op : PortOp) (rest : List PortOp) : (s.take op rest).inputs = rest := rfl
@[simp] theorem State.take_now (op : PortOp) (rest : List PortOp) : (s.take op rest).now = op.now := rfl
@[simp] theorem State.take_unesc (op : PortOp) (rest : List PortOp) : (s.take op rest).unesc = s.unesc := rfl

end Sys2Proof.Machine
end

