-- ==== Sys2Proof/Safety.lean ====
section
/-! DEFINITION. What counts as a safe state, in the terms the statements use: the invariants the spec's rules give the
registers, and an empty FAULT. -/

namespace Sys2Proof.Machine

open Sys2Proof

/-- FAULT is empty (60_exceptions.md R362: "so that a proof can require it to stay empty"). -/
abbrev State.FaultFree (s : State) : Prop := s.fault = {}

/-- The timestamp of the operation being run is not before T_LAST_OP (70_reset_and_hazards.md R392). -/
abbrev State.OnTime (s : State) : Prop := s.timeRegresses = false

/-- TXQ has room for one more frame (45_command_queue.md R271). -/
abbrev State.HasRoom (c : Config) (s : State) : Prop := s.txq.length ≠ c.queueDepth

/-- The assembler's invariant (42_frame_assembler.md R179). -/
abbrev State.AssemblerOk (c : Config) (s : State) : Prop :=
  (s.asmState = .waiting → s.fbuf = []) ∧
  (s.asmState = .inFrame → s.fbuf.head? = some startByte ∧
    (∀ b ∈ s.fbuf.tail, b ≠ startByte ∧ b ≠ endByte) ∧ s.fbuf.length ≤ c.frameMax - 1)

/-- A frame as the block transmits it: the markers at its ends and nowhere else, 12 to 22 bytes (30_encoding.md R95,
41_escape.md R153, 43_packet_codec.md R209). -/
abbrev WireFrame (f : List Byte) : Prop :=
  f.head? = some startByte ∧ f.getLast? = some endByte ∧
    (∀ b ∈ frameBody f, b ≠ startByte ∧ b ≠ endByte) ∧ 12 ≤ f.length ∧ f.length ≤ 22

/-- TXQ holds at most P_QUEUE_DEPTH entries, each the fully encoded frame of one command, 12 to 22 bytes (10_state.md
R26). -/
abbrev State.QueueOk (c : Config) (s : State) : Prop :=
  s.txq.length ≤ c.queueDepth ∧ ∀ f ∈ s.txq, (∃ cmd, f = encodeFrame cmd) ∧ WireFrame f

/-- RXHIST holds at most six bytes; while armed they are the tail signature and a byte has been received (R23, R24,
R276). -/
abbrev State.TailOk (c : Config) (s : State) : Prop :=
  s.rxHist.length ≤ 6 ∧ (s.tailArmed = true → s.rxHist = c.tailSig.toList ∧ s.tLastRx.isSome = true)

/-- A stored timestamp, if there is one, is at most T_LAST_OP. -/
def stampOk : Option Nat → Option Nat → Bool
  | none, _ => true
  | some _, none => false
  | some t, some u => decide (t ≤ u)

/-- Every stored timestamp that a rule reads is that of an accepted operation (R25, R32, R34, R36, R49). -/
abbrev State.StampsOk (s : State) : Prop :=
  stampOk s.tLastRx s.tLastOp = true ∧ stampOk s.lastCmdLight s.tLastOp = true ∧
  stampOk s.lastCmdHeater s.tLastOp = true ∧
  (s.btPending.isSome = true → stampOk (some s.btSetT) s.tLastOp = true) ∧
  (s.sessionActive = true → stampOk (some s.sessionStartT) s.tLastOp = true)

/-- A running session started at the latest with the last accepted operation, and the minutes it last published are at
most the whole minutes that had passed by then (46_reconciler.md R309 to R314). -/
abbrev State.SessionOk (s : State) : Prop :=
  s.sessionActive = true → ∃ p u, s.sessionLastPubMin = some p ∧ s.tLastOp = some u ∧ s.sessionStartT ≤ u ∧
    p ≤ (u - s.sessionStartT) / 60000

/-- The flags are those of the last packets received, which the caches hold (R27 to R31, R35, R42, R220), under the
session source COIL_7180. -/
abbrev State.FlagsOk (c : Config) (s : State) : Prop :=
  s.heatingStatus = enableFlag s.caches.c3400.data ∧
  s.truthLearned = s.caches.c7180.valid ∧
  s.lightTruth = lightFlag c s.caches.c7180.data ∧
  s.heaterTruth = coilFlag c s.caches.c7180.data ∧
  s.coilHeating = coilFlag c s.caches.c7180.data ∧
  s.sessionActive = coilFlag c s.caches.c7180.data ∧
  (s.sessionActive = true → s.sessionLastPubMin.isSome = true) ∧
  s.ready = (s.caches.cB000.valid && readyFlag s.caches.cB000.data)

/-- A cache that no packet has filled is 0 (R40). -/
abbrev State.CachesOk (s : State) : Prop :=
  ∀ f : Family, (s.caches.get f).valid = false → (s.caches.get f).data = 0

/-- Every bit of FAULT that is set in `f` is set in `g` (R362). -/
structure FaultReg.Within (f g : FaultReg) : Prop where
  queueOverflow : f.queueOverflow = true → g.queueOverflow = true
  badOp : f.badOp = true → g.badOp = true
  badOperand : f.badOperand = true → g.badOperand = true
  timeRegress : f.timeRegress = true → g.timeRegress = true
  pctRange : f.pctRange = true → g.pctRange = true

end Sys2Proof.Machine
end

