-- ==== Sys2Proof/Laws/Ops.lean ====
section
/-! SUPPORT. For each shared operation, once, everything it can do: later proofs cite these and do not unfold it. -/

namespace Sys2Proof.Machine

open Sys2Proof

/-! ### Family caches -/

@[simp] theorem Caches.get_set_same (c : Caches) (f : Family) (e : CacheEntry) : (c.set f e).get f = e := by
  cases f <;> rfl

theorem Caches.get_set_other (c : Caches) {f g : Family} (e : CacheEntry) (h : g ≠ f) :
    (c.set f e).get g = c.get g := by
  cases f <;> cases g <;> first | rfl | exact absurd rfl h

/-! ### FAULT -/

@[simp] theorem FaultReg.within_refl (f : FaultReg) : f.Within f := ⟨id, id, id, id, id⟩

theorem FaultReg.within_trans {f g h : FaultReg} (a : f.Within g) (b : g.Within h) : f.Within h :=
  ⟨b.queueOverflow ∘ a.queueOverflow, b.badOp ∘ a.badOp, b.badOperand ∘ a.badOperand,
    b.timeRegress ∘ a.timeRegress, b.pctRange ∘ a.pctRange⟩

@[simp] theorem FaultReg.within_overflow (f : FaultReg) : f.Within { f with queueOverflow := true } :=
  ⟨fun _ => rfl, id, id, id, id⟩

@[simp] theorem FaultReg.within_mark (f : FaultReg) (r : RefuseReason) : f.Within (f.mark r) := by
  cases r <;> constructor <;> simp [FaultReg.mark]

/-! ### The input port -/

theorem fetch_nil {s : State} (h : s.inputs = []) : fetch s = none := by simp [fetch, h]

theorem fetch_ok {s : State} {op : PortOp} {rest : List PortOp} {i : Instr} (h : s.inputs = op :: rest)
    (hd : decode (.portWord op.word) = .ok i) : fetch s = some (.ok i, s.take op rest) := by
  simp [fetch, h, hd]

theorem fetch_error {s : State} {op : PortOp} {rest : List PortOp} {r : Reject} (h : s.inputs = op :: rest)
    (hd : decode (.portWord op.word) = .error r) : fetch s = some (.error (rejectReason r), s.take op rest) := by
  simp [fetch, h, hd]

/-- Every outcome of a step: idle, a decoded operation run, or a rejected word recorded. -/
theorem step_cases (s : State) :
    (s.inputs = [] ∧ step s = .next s) ∨
    (∃ op rest i, s.inputs = op :: rest ∧ decode (.portWord op.word) = .ok i ∧ step s = exec i (s.take op rest)) ∨
    (∃ op rest r, s.inputs = op :: rest ∧ decode (.portWord op.word) = .error r ∧
      step s = .next ((s.take op rest).refuse (rejectReason r))) := by
  match h : s.inputs with
  | [] => exact .inl ⟨rfl, by simp [step, fetch_nil h]⟩
  | op :: rest =>
    match hd : decode (.portWord op.word) with
    | .ok i => exact .inr (.inl ⟨op, rest, i, rfl, hd, by simp [step, fetch_ok h hd]⟩)
    | .error r => exact .inr (.inr ⟨op, rest, r, rfl, hd, by simp [step, fetch_error h hd]⟩)

/-! ### The checks of every port operation -/

theorem accept_onTime {body : State → State} {s : State} (h : s.OnTime) : accept body s = body s.noteOp := by
  simp [accept, h]

theorem accept_late {body : State → State} {s : State} (h : ¬ s.OnTime) :
    accept body s = s.refuse .timeRegress := by
  simp [accept, h]

theorem onTime_iff {s : State} : s.OnTime ↔ ∀ t, s.tLastOp = some t → t ≤ s.now := by
  unfold State.OnTime State.timeRegresses
  cases s.tLastOp <;> simp

/-! ### The queue -/

theorem push_room {c : Config} {cmd : Cmd} {k : State → State} {s : State} (h : s.HasRoom c) :
    push c cmd k s = k { s with txq := s.txq ++ [encodeFrame cmd] } := by
  simp [push, State.queueFull, h]

theorem push_full {c : Config} {cmd : Cmd} {k : State → State} {s : State} (h : ¬ s.HasRoom c) :
    push c cmd k s = s.raiseOverflow := by
  simp only [State.HasRoom, ne_eq, Decidable.not_not] at h
  simp [push, State.queueFull, h]

/-- SCHEDULE sends the front frame, under all its conditions, or does nothing. -/
theorem schedule_cases (c : Config) (n : U16) (s : State) :
    (∃ f rest t, s.txq = f :: rest ∧ s.tailArmed = true ∧ n = 0#16 ∧ s.tLastRx = some t ∧
      t + c.gapMs c.model ≤ s.now ∧
      schedule c n s = { s with txq := rest, tailArmed := false, txOut := s.txOut ++ [f] }) ∨
    schedule c n s = s := by
  unfold schedule maySend gapElapsed
  match s.txq with
  | [] => exact .inr rfl
  | f :: rest =>
    match h : s.tLastRx with
    | none => simp
    | some t =>
      by_cases hc : s.tailArmed = true ∧ n = 0#16 ∧ t + c.gapMs c.model ≤ s.now
      · exact .inl ⟨f, rest, t, rfl, hc.1, hc.2.1, rfl, hc.2.2, by simp [hc, State.transmit]⟩
      · right
        simp only [Bool.and_eq_true, beq_iff_eq, decide_eq_true_eq]
        rw [if_neg (by tauto)]

/-! ### The reconciler -/

theorem publishBt_eq (v : Minutes) (s : State) :
    publishBt v s = { s with
      lastPubBt := some v
      events := s.events ++ if s.lastPubBt = some v then [] else [⟨.bathTimeSetting, minutesValue v⟩] } := by
  unfold publishBt
  split
  · next h => rw [← h]; simp
  · rfl

theorem publishTarget_eq (v : BitVec 11) (s : State) :
    publishTarget v s = { s with
      lastPubTarget := some v
      events := s.events ++ if s.lastPubTarget = some v then [] else [⟨.temperatureSetting, v.setWidth 32⟩] } := by
  unfold publishTarget
  split
  · next h => rw [← h]; simp
  · rfl

/-- BT_RECONCILE publishes either the pending target, which stays, or the received value, after which none is
pending. -/
theorem btReconcile_cases (c : Config) (m : Minutes) (s : State) :
    (s.btPending = none ∧ btReconcile c m s = publishBt m s) ∨
    (∃ p, s.btPending = some p ∧ btReconcile c m s = publishBt p s) ∨
    (∃ p, s.btPending = some p ∧ s.heatingStatus = true ∧
      btReconcile c m s = publishBt m { s with btPending := none }) := by
  unfold btReconcile
  match h : s.btPending with
  | none => exact .inl ⟨rfl, rfl⟩
  | some p =>
    by_cases hc : ((withinBtWindow c s && farFrom c m p) || !s.heatingStatus) = true
    · exact .inr (.inl ⟨p, rfl, by simp [hc]⟩)
    · refine .inr (.inr ⟨p, rfl, ?_, by simp [hc]⟩)
      simp only [Bool.or_eq_true, Bool.not_eq_true', not_or, Bool.not_eq_false] at hc
      exact hc.2

/-- RELAY_SET does nothing, or pushes the relay's command and, if it has room, notes the time and may publish. -/
theorem relaySet_cases (c : Config) (r : Relay) (on : Bool) (s : State) :
    relaySet c r on s = s ∨ relaySet c r on s = s.raiseOverflow ∨
    relaySet c r on s = ({ s with txq := s.txq ++ [encodeFrame (c.relayCmd r on)] } : State).noteCmd r ∨
    relaySet c r on s =
      (({ s with txq := s.txq ++ [encodeFrame (c.relayCmd r on)] } : State).noteCmd r).emit (relayStatus r)
        (bitValue on) := by
  unfold relaySet
  by_cases h : s.HasRoom c
  · simp only [push_room h]
    split
    · split <;> simp
    · split <;> simp
  · simp only [push_full h]
    split
    · split <;> simp
    · split <;> simp

/-- SESSION_UPDATE starts a session, stops one, or does nothing. -/
theorem sessionUpdate_cases (h : Bool) (s : State) :
    (h = true ∧ s.sessionActive = false ∧ sessionUpdate h s = { s with
      sessionActive := true, sessionStartT := s.now, sessionElapsedS := 0, sessionLastPubMin := some 0
      events := s.events ++ [⟨.sessionUptime, 0#32⟩] }) ∨
    (h = false ∧ s.sessionActive = true ∧ sessionUpdate h s = { s with
      sessionActive := false, sessionElapsedS := (s.now - s.sessionStartT) / 1000 }) ∨
    (h = s.sessionActive ∧ sessionUpdate h s = s) := by
  unfold sessionUpdate
  cases h <;> cases ha : s.sessionActive <;> simp [State.emit]

/-- SESSION_TICK does nothing while inactive; else it updates the seconds, and publishes a new minute. -/
theorem sessionTick_cases (c : Config) (s : State) :
    (s.sessionActive = false ∧ sessionTick c s = s) ∨
    (s.sessionActive = true ∧ s.sessionLastPubMin = some ((s.now - s.sessionStartT) / 60000) ∧
      sessionTick c s = { s with sessionElapsedS := (s.now - s.sessionStartT) / 1000 }) ∨
    (s.sessionActive = true ∧ s.sessionLastPubMin ≠ some ((s.now - s.sessionStartT) / 60000) ∧
      sessionTick c s = { s with
        sessionElapsedS := (s.now - s.sessionStartT) / 1000
        sessionLastPubMin := some ((s.now - s.sessionStartT) / 60000)
        events := s.events ++ [⟨.sessionUptime, uptimeValue c ((s.now - s.sessionStartT) / 60000)⟩] }) := by
  unfold sessionTick
  cases ha : s.sessionActive
  · simp
  · by_cases h : s.sessionLastPubMin = some ((s.now - s.sessionStartT) / 60000) <;> simp [h, State.emit]

/-! ### CRC and framing -/

@[simp] theorem endByte_ne_startByte : endByte ≠ startByte := by decide

@[simp] theorem startByte_ne_endByte : startByte ≠ endByte := by decide

@[simp] theorem escByte_ne_startByte : escByte ≠ startByte := by decide

@[simp] theorem escByte_ne_endByte : escByte ≠ endByte := by decide

theorem crc16_append (a b : List Byte) : crc16 (a ++ b) = b.foldl crcByte (crc16 a) := by
  simp [crc16, List.foldl_append]

@[simp] theorem escEncode_nil : escEncode [] = [] := rfl

@[simp] theorem escEncode_cons (b : Byte) (s : List Byte) : escEncode (b :: s) = escEncodeByte b ++ escEncode s := rfl

@[simp] theorem frameBody_frameOf (a t : Byte) (code : U16) (d : U32) :
    frameBody (frameOf a t code d) = escEncode (packetBytes a t code d) := by
  simp [frameBody, frameOf]

@[simp] theorem contentBytes_length (a t : Byte) (code : U16) (d : U32) : (contentBytes a t code d).length = 8 := rfl

@[simp] theorem packetBytes_length (a t : Byte) (code : U16) (d : U32) : (packetBytes a t code d).length = 10 := rfl

end Sys2Proof.Machine
end

