-- ==== Sys2Proof/Laws/Receive.lean ====
section
/-! SUPPORT. What the receive path leaves alone (10_state.md R48): one relation, kept by each of its parts. -/

namespace Sys2Proof.Machine

open Sys2Proof

/-- From `s` to `t`, nothing that only the assembler, the port operations or the transmitter write has changed, the
output histories have only grown, and FAULT has kept its bits. -/
structure ReceiveKeeps (s t : State) : Prop where
  asmState : t.asmState = s.asmState
  fbuf : t.fbuf = s.fbuf
  rxHist : t.rxHist = s.rxHist
  tailArmed : t.tailArmed = s.tailArmed
  tLastRx : t.tLastRx = s.tLastRx
  lastCmdLight : t.lastCmdLight = s.lastCmdLight
  lastCmdHeater : t.lastCmdHeater = s.lastCmdHeater
  btSetT : t.btSetT = s.btSetT
  tLastOp : t.tLastOp = s.tLastOp
  txOut : t.txOut = s.txOut
  inputs : t.inputs = s.inputs
  now : t.now = s.now
  events : ∃ e, t.events = s.events ++ e
  diags : ∃ d, t.diags = s.diags ++ d
  fault : s.fault.Within t.fault

theorem ReceiveKeeps.refl (s : State) : ReceiveKeeps s s := by
  constructor <;> first | rfl | exact ⟨[], (List.append_nil _).symm⟩ | exact FaultReg.within_refl _

theorem ReceiveKeeps.trans {s t u : State} (h : ReceiveKeeps s t) (k : ReceiveKeeps t u) : ReceiveKeeps s u where
  asmState := k.asmState.trans h.asmState
  fbuf := k.fbuf.trans h.fbuf
  rxHist := k.rxHist.trans h.rxHist
  tailArmed := k.tailArmed.trans h.tailArmed
  tLastRx := k.tLastRx.trans h.tLastRx
  lastCmdLight := k.lastCmdLight.trans h.lastCmdLight
  lastCmdHeater := k.lastCmdHeater.trans h.lastCmdHeater
  btSetT := k.btSetT.trans h.btSetT
  tLastOp := k.tLastOp.trans h.tLastOp
  txOut := k.txOut.trans h.txOut
  inputs := k.inputs.trans h.inputs
  now := k.now.trans h.now
  events := by
    obtain ⟨e1, he1⟩ := h.events
    obtain ⟨e2, he2⟩ := k.events
    exact ⟨e1 ++ e2, by rw [he2, he1, List.append_assoc]⟩
  diags := by
    obtain ⟨d1, hd1⟩ := h.diags
    obtain ⟨d2, hd2⟩ := k.diags
    exact ⟨d1 ++ d2, by rw [hd2, hd1, List.append_assoc]⟩
  fault := FaultReg.within_trans h.fault k.fault

theorem ReceiveKeeps.emit (s : State) (k : EventKind) (v : U32) : ReceiveKeeps s (s.emit k v) := by
  constructor <;> first | rfl | exact ⟨_, rfl⟩ | exact ⟨[], (List.append_nil _).symm⟩ | exact FaultReg.within_refl _

theorem ReceiveKeeps.report (s : State) (k : DiagCode) (v : U32) : ReceiveKeeps s (s.report k v) := by
  constructor <;> first | rfl | exact ⟨_, rfl⟩ | exact ⟨[], (List.append_nil _).symm⟩ | exact FaultReg.within_refl _

theorem ReceiveKeeps.publishBt (v : Minutes) (s : State) : ReceiveKeeps s (publishBt v s) := by
  rw [publishBt_eq]
  constructor <;> first | rfl | exact ⟨_, rfl⟩ | exact ⟨[], (List.append_nil _).symm⟩ | exact FaultReg.within_refl _

theorem ReceiveKeeps.publishTarget (v : BitVec 11) (s : State) : ReceiveKeeps s (publishTarget v s) := by
  rw [publishTarget_eq]
  constructor <;> first | rfl | exact ⟨_, rfl⟩ | exact ⟨[], (List.append_nil _).symm⟩ | exact FaultReg.within_refl _

theorem ReceiveKeeps.btReconcile (c : Config) (m : Minutes) (s : State) : ReceiveKeeps s (btReconcile c m s) := by
  obtain ⟨-, h⟩ | ⟨p, -, h⟩ | ⟨p, -, -, h⟩ := btReconcile_cases c m s
  · exact h ▸ .publishBt m s
  · exact h ▸ .publishBt p s
  · rw [h, publishBt_eq]
    constructor <;> first | rfl | exact ⟨_, rfl⟩ | exact ⟨[], (List.append_nil _).symm⟩ | exact FaultReg.within_refl _

theorem ReceiveKeeps.sessionUpdate (h : Bool) (s : State) : ReceiveKeeps s (sessionUpdate h s) := by
  obtain ⟨-, -, e⟩ | ⟨-, -, e⟩ | ⟨-, e⟩ := sessionUpdate_cases h s <;> rw [e] <;>
    constructor <;> first | rfl | exact ⟨_, rfl⟩ | exact ⟨[], (List.append_nil _).symm⟩ | exact FaultReg.within_refl _

theorem ReceiveKeeps.pushOnly (c : Config) (cmd : Cmd) (s : State) :
    ReceiveKeeps s (push c cmd (fun s => s) s) := by
  by_cases h : s.HasRoom c
  · rw [push_room h]
    constructor <;> first | rfl | exact ⟨[], (List.append_nil _).symm⟩ | exact FaultReg.within_refl _
  · rw [push_full h]
    constructor <;> first | rfl | exact ⟨[], (List.append_nil _).symm⟩ | exact FaultReg.within_overflow _

theorem ReceiveKeeps.decode3400 (c : Config) (d : U32) (s : State) : ReceiveKeeps s (decode3400 c d s) := by
  have h1 : ReceiveKeeps s ((({ s with heatingStatus := enableFlag d } : State).emit .heaterStatus
      (bitValue (enableFlag d))).emitHeaterState (if enableFlag d then .on else .off)) := by
    refine .trans (t := { s with heatingStatus := enableFlag d }) ?_ ((ReceiveKeeps.emit _ _ _).trans (.emit _ _ _))
    constructor <;> first | rfl | exact ⟨[], (List.append_nil _).symm⟩ | exact FaultReg.within_refl _
  unfold Machine.decode3400
  cases c.sessionSrc
  · exact h1
  · exact h1.trans (.sessionUpdate _ _)

theorem ReceiveKeeps.decode7180 (c : Config) (d : U32) (s : State) : ReceiveKeeps s (decode7180 c d s) := by
  have h1 : ReceiveKeeps s (truthLearn (lightFlag c d) (coilFlag c d)
      { (s.emit .lightStatus (bitValue (lightFlag c d))).emitHeaterState
          (coilState (coilFlag c d) s.heatingStatus) with coilHeating := coilFlag c d }) := by
    refine ((ReceiveKeeps.emit s .lightStatus (bitValue (lightFlag c d))).trans
      (.emit _ .heaterState (coilState (coilFlag c d) s.heatingStatus).code)).trans ?_
    constructor <;> first | rfl | exact ⟨[], (List.append_nil _).symm⟩ | exact FaultReg.within_refl _
  unfold Machine.decode7180
  cases c.sessionSrc
  · exact h1.trans (.sessionUpdate _ _)
  · exact h1

theorem ReceiveKeeps.decodeB000 (c : Config) (d : U32) (s : State) : ReceiveKeeps s (decodeB000 c d s) := by
  have h1 : ReceiveKeeps s (({ s with ready := readyFlag d } : State).emit .readyStatus (bitValue (readyFlag d))) := by
    refine .trans (t := { s with ready := readyFlag d }) ?_ (.emit _ _ _)
    constructor <;> first | rfl | exact ⟨[], (List.append_nil _).symm⟩ | exact FaultReg.within_refl _
  unfold Machine.decodeB000
  cases ackLiteralOf d with
  | none => exact h1
  | some l => exact h1.trans ((ReceiveKeeps.emit _ _ _).trans (.pushOnly c _ _))

theorem ReceiveKeeps.decodeB6 (c : Config) (lo : Byte) (d : U32) (s : State) :
    ReceiveKeeps s (decodeB6 c lo d s) := by
  have h1 : ReceiveKeeps s { s with codeB6Lo := lo } := by
    constructor <;> first | rfl | exact ⟨[], (List.append_nil _).symm⟩ | exact FaultReg.within_refl _
  unfold Machine.decodeB6
  split
  · exact h1.trans (.emit _ _ _)
  · split
    · exact h1.trans (.emit _ _ _)
    · exact h1

/-- Every decode rule keeps what the receive path does not own. -/
theorem ReceiveKeeps.decodeFamily (c : Config) (f : Family) (code : U16) (d : U32) (s : State) :
    ReceiveKeeps s (decodeFamily c f code d s) := by
  cases f with
  | f3400 => exact .decode3400 c d s
  | f4002 => exact (ReceiveKeeps.btReconcile _ _ _).trans (.emit _ _ _)
  | f6000 => exact (ReceiveKeeps.emit _ _ _).trans (.publishTarget _ _)
  | f6001 =>
    simp only [Machine.decodeFamily, decode6001]
    split
    · exact ((ReceiveKeeps.emit _ _ _).trans (.emit _ _ _)).trans (.emit _ _ _)
    · exact (ReceiveKeeps.emit _ _ _).trans (.emit _ _ _)
  | f7000 =>
    simp only [Machine.decodeFamily, decode7000]
    split
    · exact .refl s
    · exact .emit _ _ _
  | f7180 => exact .decode7180 c d s
  | fB000 => exact .decodeB000 c d s
  | fB6 => exact .decodeB6 c _ d s
  | _ => exact .emit _ _ _

theorem ReceiveKeeps.receiveFamily (c : Config) (f : Family) (code : U16) (d : U32) (s : State) :
    ReceiveKeeps s (receiveFamily c f code d s) := by
  refine .trans (t := s.writeCache f d) ?_ (.decodeFamily c f code d _)
  constructor <;> first | rfl | exact ⟨[], (List.append_nil _).symm⟩ | exact FaultReg.within_refl _

theorem ReceiveKeeps.dispatch (c : Config) (code : U16) (d : U32) (s : State) :
    ReceiveKeeps s (dispatch c code d s) := by
  unfold Machine.dispatch
  split
  · exact .receiveFamily c _ code d s
  · exact .report _ _ _

/-- The checks of DECODE report one diagnostic and change nothing else, or dispatch the packet. -/
theorem checkPacket_cases (c : Config) (p : List Byte) (s : State) :
    (∃ code v, checkPacket c p s = s.report code v) ∨
    checkPacket c p s =
      dispatch c (codeOf (p.take (p.length - 2))) (dataOf (p.take (p.length - 2))) s := by
  unfold checkPacket acceptPacket
  dsimp only
  split_ifs
  · exact .inl ⟨_, _, rfl⟩
  · exact .inl ⟨_, _, rfl⟩
  · exact .inl ⟨_, _, rfl⟩
  · exact .inl ⟨_, _, rfl⟩
  · exact .inr rfl

/-- DECODE's checks of a packet that carries the right CRC of a content long enough: all pass (R195 to R197). -/
theorem checkPacket_stamped {c : Config} {content : List Byte} (h : badContentLength c content = false) (s : State) :
    checkPacket c (content ++ [hiByte (crc16 content), loByte (crc16 content)]) s = acceptPacket c content s := by
  have hb : ∀ r : U16, be16 (hiByte r) (loByte r) = r := fun r => by
    refine BitVec.eq_of_getLsbD_eq fun i hi => ?_
    simp only [be16, hiByte, loByte, BitVec.getLsbD_append, BitVec.getLsbD_extractLsb']
    by_cases h8 : i < 8
    · simp [h8]
    · have : i - 8 < 8 := by omega
      simp [h8, this, show 8 + (i - 8) = i by omega]
  have e1 : (content ++ [hiByte (crc16 content), loByte (crc16 content)]).length - 2 = content.length := by simp
  have e2 : (content ++ [hiByte (crc16 content), loByte (crc16 content)]).length - 1 = content.length + 1 := by simp
  have h2 : ¬ (content ++ [hiByte (crc16 content), loByte (crc16 content)]).length < 2 := by simp
  unfold checkPacket
  rw [if_neg h2]
  simp only [e1, e2, byteAt, List.getD_eq_getElem?_getD, List.getElem?_append_right (Nat.le_refl _),
    List.getElem?_append_right (Nat.le_succ _), Nat.sub_self, List.take_left']
  simp [h, hb]

/-- ESC_DECODE only appends to UNESC, and UNKNOWN_ESCAPE records to the diagnostic port; what it appends does not depend
on the state. -/
theorem unescape_appends : ∀ l : List Byte, ∃ out dg, (∀ d ∈ dg, d.code = .unknownEscape) ∧ ∀ s : State,
    unescape l s = { s with unesc := s.unesc ++ out, diags := s.diags ++ dg }
  | [] => ⟨[], [], by simp, fun s => by simp [unescape]⟩
  | [b] => by
    by_cases h : b = escByte
    · exact ⟨[0x91#8], [⟨.unknownEscape, 0x100#32⟩], by simp, fun s => by
        simp [unescape, h, unescapeTrailing, State.outUnescaped, State.report]⟩
    · exact ⟨[b], [], by simp, fun s => by simp [unescape, h, State.outUnescaped]⟩
  | b :: f :: rest => by
    by_cases h : b = escByte
    · obtain ⟨out, dg, hd, hr⟩ := unescape_appends rest
      have hp : ∃ o d, (∀ x ∈ d, x.code = DiagCode.unknownEscape) ∧
          ∀ s : State, unescapePair f s = { s with unesc := s.unesc ++ o, diags := s.diags ++ d } := by
        unfold unescapePair
        split_ifs
        · exact ⟨[0x9C#8], [], by simp, fun s => by simp [State.outUnescaped]⟩
        · exact ⟨[0x98#8], [], by simp, fun s => by simp [State.outUnescaped]⟩
        · exact ⟨[0x91#8], [], by simp, fun s => by simp [State.outUnescaped]⟩
        · exact ⟨[0x91#8], [⟨.unknownEscape, f.setWidth 32⟩], by simp, fun s => by
            simp [State.outUnescaped, State.report]⟩
      obtain ⟨o, d, hd', hp⟩ := hp
      refine ⟨o ++ out, d ++ dg, fun x hx => ?_, fun s => by simp [unescape, h, hr, hp]⟩
      exact (List.mem_append.1 hx).elim (hd' x) (hd x)
    · obtain ⟨out, dg, hd, hr⟩ := unescape_appends (f :: rest)
      exact ⟨b :: out, dg, hd, fun s => by simp [unescape, h, hr, State.outUnescaped]⟩

theorem ReceiveKeeps.decodeFrame (c : Config) (f : List Byte) (s : State) : ReceiveKeeps s (decodeFrame c f s) := by
  obtain ⟨out, dg, -, h⟩ := unescape_appends (frameBody f)
  have hk : ReceiveKeeps s (unescape (frameBody f) s.clearUnescaped).clearUnescaped := by
    rw [h]
    constructor <;> first | rfl | exact ⟨_, rfl⟩ | exact ⟨[], (List.append_nil _).symm⟩ | exact FaultReg.within_refl _
  unfold Machine.decodeFrame
  obtain ⟨k, v, e⟩ | e := checkPacket_cases c (unescape (frameBody f) s.clearUnescaped).unesc
    (unescape (frameBody f) s.clearUnescaped).clearUnescaped
  · exact e ▸ hk.trans (.report _ _ _)
  · exact e ▸ hk.trans (.dispatch c _ _ _)

/-- ASSEMBLE opens a frame, drops one, grows the open one, decodes the closed one, or does nothing. -/
theorem assemble_cases (c : Config) (b : Byte) (s : State) :
    (b = startByte ∧ assemble c b s = openFrame s) ∨
    (b ≠ startByte ∧ s.asmState = .waiting ∧ assemble c b s = s) ∨
    (b = endByte ∧ s.asmState = .inFrame ∧ s.fbuf.length < 6 ∧ assemble c b s = dropFrame s) ∨
    (b = endByte ∧ s.asmState = .inFrame ∧ 6 ≤ s.fbuf.length ∧
      assemble c b s = decodeFrame c (s.fbuf ++ [endByte]) (dropFrame s)) ∨
    (b ≠ startByte ∧ b ≠ endByte ∧ s.asmState = .inFrame ∧ s.fbuf.length = c.frameMax - 1 ∧
      assemble c b s = (dropFrame s).report .frameTooLong 0#32) ∨
    (b ≠ startByte ∧ b ≠ endByte ∧ s.asmState = .inFrame ∧ s.fbuf.length ≠ c.frameMax - 1 ∧
      assemble c b s = { s with fbuf := s.fbuf ++ [b] }) := by
  by_cases h1 : b = startByte
  · exact .inl ⟨h1, by simp [assemble, h1]⟩
  · by_cases h2 : b = endByte
    · match h3 : s.asmState with
      | .waiting => exact .inr (.inl ⟨h1, rfl, by simp [assemble, h2, endFrame, h3]⟩)
      | .inFrame =>
        by_cases h4 : s.fbuf.length < 6
        · exact .inr (.inr (.inl ⟨h2, rfl, h4, by
            simp [assemble, h2, endFrame, h3, closeFrame, show ¬ 6 < s.fbuf.length + 1 by omega]⟩))
        · refine .inr (.inr (.inr (.inl ⟨h2, rfl, by omega, ?_⟩)))
          simp [assemble, h2, endFrame, h3, closeFrame, show 6 < s.fbuf.length + 1 by omega]
    · match h3 : s.asmState with
      | .waiting => exact .inr (.inl ⟨h1, rfl, by simp [assemble, h1, h2, plainByte, h3]⟩)
      | .inFrame =>
        by_cases h4 : s.fbuf.length = c.frameMax - 1
        · exact .inr (.inr (.inr (.inr (.inl ⟨h1, h2, rfl, h4, by simp [assemble, h1, h2, plainByte, h3, h4]⟩))))
        · exact .inr (.inr (.inr (.inr (.inr ⟨h1, h2, rfl, h4, by
            simp [assemble, h1, h2, plainByte, h3, h4]⟩))))

end Sys2Proof.Machine
end

