-- ==== Sys2Proof/Laws/Steps.lean ====
section
/-! SUPPORT. What a whole step can do, once: the parts of TICK, of the receive path and of the command path (R48), and
the cases of `step`. -/

namespace Sys2Proof.Machine

open Sys2Proof

/-! ### The receive path -/

/-- DECODE appends the unescaping's diagnostics, then reports one more or dispatches a packet. -/
theorem decodeFrame_cases (c : Config) (f : List Byte) (s : State) : ∃ dg,
    (∃ k v, decodeFrame c f s = ({ s with unesc := [], diags := s.diags ++ dg } : State).report k v) ∨
    ∃ code d, decodeFrame c f s = dispatch c code d { s with unesc := [], diags := s.diags ++ dg } := by
  obtain ⟨out, dg, -, h⟩ := unescape_appends (frameBody f)
  refine ⟨dg, ?_⟩
  unfold decodeFrame
  rw [h]
  dsimp only [State.clearUnescaped]
  obtain ⟨k, v, e⟩ | e := checkPacket_cases c ([] ++ out) { s with unesc := [], diags := s.diags ++ dg }
  · exact .inl ⟨k, v, e⟩
  · exact .inr ⟨_, _, e⟩

/-- ASSEMBLE moves the assembler, and keeps what the receive path does not own. -/
theorem assemble_keeps (c : Config) (b : Byte) (s : State) :
    ∃ a f, ReceiveKeeps { s with asmState := a, fbuf := f } (assemble c b s) := by
  obtain ⟨-, e⟩ | ⟨-, -, e⟩ | ⟨-, -, -, e⟩ | ⟨-, -, -, e⟩ | ⟨-, -, -, -, e⟩ | ⟨-, -, -, -, e⟩ :=
    assemble_cases c b s <;> rw [e]
  · exact ⟨_, _, .refl _⟩
  · exact ⟨s.asmState, s.fbuf, .refl _⟩
  · exact ⟨_, _, .refl _⟩
  · exact ⟨_, _, .decodeFrame c _ _⟩
  · exact ⟨_, _, .report _ _ _⟩
  · exact ⟨s.asmState, _, .refl _⟩

/-- From `s` to `t` the session has stayed as it was, started now with minute 0 published, or stopped (R309). -/
abbrev SessionMoves (s t : State) : Prop :=
  (t.sessionActive = s.sessionActive ∧ t.sessionStartT = s.sessionStartT ∧
    t.sessionLastPubMin = s.sessionLastPubMin) ∨
  (t.sessionActive = true ∧ t.sessionStartT = s.now ∧ t.sessionLastPubMin = some 0) ∨ t.sessionActive = false

theorem sessionUpdate_moves (h : Bool) (s : State) : SessionMoves s (sessionUpdate h s) := by
  obtain ⟨-, -, e⟩ | ⟨-, -, e⟩ | ⟨-, e⟩ := sessionUpdate_cases h s <;> rw [e]
  · exact .inr (.inl ⟨rfl, rfl, rfl⟩)
  · exact .inr (.inr rfl)
  · exact .inl ⟨rfl, rfl, rfl⟩

/-- Only the two session sources move the session (R309). -/
theorem decodeFamily_moves (c : Config) (f : Family) (code : U16) (d : U32) (s : State) :
    SessionMoves s (decodeFamily c f code d s) := by
  have same : ∀ t : State, t.sessionActive = s.sessionActive → t.sessionStartT = s.sessionStartT →
      t.sessionLastPubMin = s.sessionLastPubMin → SessionMoves s t := fun t a b e => .inl ⟨a, b, e⟩
  cases f with
  | f3400 =>
    simp only [decodeFamily, decode3400]
    cases c.sessionSrc
    · exact same _ rfl rfl rfl
    · exact sessionUpdate_moves _ (State.emitHeaterState (State.emit { s with heatingStatus := enableFlag d } _ _) _)
  | f4002 =>
    simp only [decodeFamily, decode4002]
    obtain ⟨-, h⟩ | ⟨p, -, h⟩ | ⟨p, -, -, h⟩ := btReconcile_cases c (btDecode (btRawOf d)) s <;>
      rw [h, publishBt_eq] <;> exact same _ rfl rfl rfl
  | f6000 => simp only [decodeFamily, decode6000, publishTarget_eq]; exact same _ rfl rfl rfl
  | f6001 => simp only [decodeFamily, decode6001]; split <;> exact same _ rfl rfl rfl
  | f7000 => simp only [decodeFamily, decode7000]; split <;> exact same _ rfl rfl rfl
  | f7180 =>
    simp only [decodeFamily, decode7180]
    cases c.sessionSrc
    · exact sessionUpdate_moves (coilFlag c d) (truthLearn _ _ _)
    · exact same _ rfl rfl rfl
  | fB000 =>
    simp only [decodeFamily, decodeB000]
    split
    · exact same _ rfl rfl rfl
    · unfold push
      split_ifs <;> exact same _ rfl rfl rfl
  | fB6 => simp only [decodeFamily, decodeB6]; split_ifs <;> exact same _ rfl rfl rfl
  | f4003 => exact same _ rfl rfl rfl
  | f4200 => exact same _ rfl rfl rfl
  | f7280 => exact same _ rfl rfl rfl
  | f9000 => exact same _ rfl rfl rfl
  | f9400 => exact same _ rfl rfl rfl
  | f9401 => exact same _ rfl rfl rfl

theorem dispatch_moves (c : Config) (code : U16) (d : U32) (s : State) : SessionMoves s (dispatch c code d s) := by
  unfold dispatch
  split
  · exact decodeFamily_moves c _ code d (s.writeCache _ d)
  · exact .inl ⟨rfl, rfl, rfl⟩

/-- What a received byte does to the session. -/
theorem assemble_moves (c : Config) (b : Byte) (s : State) : SessionMoves s (assemble c b s) := by
  obtain ⟨-, e⟩ | ⟨-, -, e⟩ | ⟨-, -, -, e⟩ | ⟨-, -, -, e⟩ | ⟨-, -, -, -, e⟩ | ⟨-, -, -, -, e⟩ :=
    assemble_cases c b s <;> rw [e]
  case inr.inr.inr.inl =>
    obtain ⟨dg, ⟨k, v, e⟩ | ⟨code, d, e⟩⟩ := decodeFrame_cases c (s.fbuf ++ [endByte]) (dropFrame s) <;> rw [e]
    · exact .inl ⟨rfl, rfl, rfl⟩
    · exact dispatch_moves c code d { dropFrame s with unesc := [], diags := (dropFrame s).diags ++ dg }
  all_goals exact .inl ⟨rfl, rfl, rfl⟩

/-! ### TICK -/

/-- TICK's session part: the elapsed seconds, the last published minute (the one that has passed, while a session runs)
and new records. -/
theorem sessionTick_keeps (c : Config) (s : State) : ∃ se lp ev,
    sessionTick c s = { s with sessionElapsedS := se, sessionLastPubMin := lp, events := s.events ++ ev } ∧
    ((s.sessionActive = true ∧ lp = some ((s.now - s.sessionStartT) / 60000)) ∨ lp = s.sessionLastPubMin) := by
  obtain ⟨-, e⟩ | ⟨-, -, e⟩ | ⟨h, -, e⟩ := sessionTick_cases c s <;> rw [e]
  · exact ⟨s.sessionElapsedS, s.sessionLastPubMin, [], by simp, .inr rfl⟩
  · exact ⟨(s.now - s.sessionStartT) / 1000, s.sessionLastPubMin, [], by simp, .inr rfl⟩
  · exact ⟨_, _, _, rfl, .inl ⟨h, rfl⟩⟩

/-- TICK after its session part: nothing more, or the front frame sent under all the conditions of R276. -/
theorem tickBody_cases (c : Config) (n : U16) (s : State) : ∃ se lp ev u,
    u = { s with sessionElapsedS := se, sessionLastPubMin := lp, events := s.events ++ ev } ∧
    ((s.sessionActive = true ∧ lp = some ((s.now - s.sessionStartT) / 60000)) ∨ lp = s.sessionLastPubMin) ∧
    (tickBody c n s = u ∨ ∃ f rest t, s.txq = f :: rest ∧ s.tailArmed = true ∧ n = 0#16 ∧ s.tLastRx = some t ∧
      t + c.gapMs c.model ≤ s.now ∧
      tickBody c n s = { u with txq := rest, tailArmed := false, txOut := s.txOut ++ [f] }) := by
  obtain ⟨se, lp, ev, hk, hs⟩ := sessionTick_keeps c s
  refine ⟨se, lp, ev, _, rfl, hs, ?_⟩
  unfold tickBody
  rw [hk]
  obtain ⟨f, r, t, a1, a2, a3, a4, a5, e⟩ | e :=
    schedule_cases c n { s with sessionElapsedS := se, sessionLastPubMin := lp, events := s.events ++ ev }
  · exact .inr ⟨f, r, t, a1, a2, a3, a4, a5, e⟩
  · exact .inl e

/-! ### The command path -/

/-- From `s` to `t`, only what ENQUEUE and the SET operations write has changed (R48): TXQ by at most one frame at its
back, where there was room; the bath-time target; the relays' command times; LAST_PUB_BT; records; FAULT's bits. -/
structure CommandKeeps (c : Config) (s t : State) : Prop where
  asmState : t.asmState = s.asmState
  fbuf : t.fbuf = s.fbuf
  rxHist : t.rxHist = s.rxHist
  tailArmed : t.tailArmed = s.tailArmed
  tLastRx : t.tLastRx = s.tLastRx
  txq : t.txq = s.txq ∨ (s.HasRoom c ∧ ∃ cmd, t.txq = s.txq ++ [encodeFrame cmd])
  heatingStatus : t.heatingStatus = s.heatingStatus
  coilHeating : t.coilHeating = s.coilHeating
  lightTruth : t.lightTruth = s.lightTruth
  heaterTruth : t.heaterTruth = s.heaterTruth
  truthLearned : t.truthLearned = s.truthLearned
  lastCmdLight : t.lastCmdLight = s.lastCmdLight ∨ t.lastCmdLight = some s.now
  lastCmdHeater : t.lastCmdHeater = s.lastCmdHeater ∨ t.lastCmdHeater = some s.now
  bathTime : (t.btPending = s.btPending ∧ t.btSetT = s.btSetT) ∨ t.btSetT = s.now
  sessionActive : t.sessionActive = s.sessionActive
  sessionStartT : t.sessionStartT = s.sessionStartT
  sessionElapsedS : t.sessionElapsedS = s.sessionElapsedS
  sessionLastPubMin : t.sessionLastPubMin = s.sessionLastPubMin
  lastPubTarget : t.lastPubTarget = s.lastPubTarget
  caches : t.caches = s.caches
  codeB6Lo : t.codeB6Lo = s.codeB6Lo
  ready : t.ready = s.ready
  fault : t.fault = s.fault ∨ t.fault = { s.fault with queueOverflow := true }
  tLastOp : t.tLastOp = s.tLastOp
  events : ∃ e, t.events = s.events ++ e
  diags : t.diags = s.diags
  txOut : t.txOut = s.txOut
  inputs : t.inputs = s.inputs
  now : t.now = s.now
  unesc : t.unesc = s.unesc

theorem CommandKeeps.refl (c : Config) (s : State) : CommandKeeps c s s := by constructor <;> simp

theorem CommandKeeps.overflow (c : Config) (s : State) : CommandKeeps c s s.raiseOverflow := by
  constructor <;> simp [State.raiseOverflow]

theorem CommandKeeps.pushOnly (c : Config) (cmd : Cmd) (s : State) :
    CommandKeeps c s (push c cmd (fun s => s) s) := by
  by_cases h : s.HasRoom c
  · rw [push_room h]
    constructor <;> first | exact .inr ⟨h, _, rfl⟩ | simp
  · rw [push_full h]
    exact .overflow c s

theorem CommandKeeps.setBathTimeBody (c : Config) (m : Nat) (s : State) :
    CommandKeeps c s (setBathTimeBody c m s) := by
  unfold Machine.setBathTimeBody
  by_cases h : s.HasRoom c
  · simp only [push_room h, publishBt_eq]
    constructor <;> first | exact .inr ⟨h, _, rfl⟩ | simp
  · simp only [push_full h]
    exact .overflow c s

theorem CommandKeeps.relaySet (c : Config) (r : Relay) (on : Bool) (s : State) :
    CommandKeeps c s (relaySet c r on s) := by
  unfold Machine.relaySet
  by_cases h : s.HasRoom c
  · simp only [push_room h]
    split_ifs
    · exact .refl c s
    · cases r <;> constructor <;> first | exact .inr ⟨h, _, rfl⟩ | simp [State.noteCmd]
    · exact .refl c s
    · cases r <;> constructor <;> first | exact .inr ⟨h, _, rfl⟩ | simp [State.noteCmd, State.emit]
  · simp only [push_full h]
    split_ifs <;> first | exact .refl c s | exact .overflow c s

/-! ### The step -/

/-- The decoder reads none of the wire rows from a port word. -/
theorem decodePort_isPortOp {w : PortWord} {i : Instr} (h : decode (.portWord w) = .ok i) :
    i = .reset ∨ (∃ b, i = .rxByte b) ∨ (∃ n, i = .tick n) ∨ (∃ t k d, i = .enqueue t k d) ∨
    (∃ m, i = .setBathTime m) ∨ (∃ m, i = .setBathTemp m) ∨ (∃ m, i = .setMaxBathTemp m) ∨
    (∃ m, i = .setHumStep m) ∨ (∃ m, i = .setHumPct m) ∨ (∃ on, i = .setLight on) ∨ ∃ on, i = .setHeater on := by
  change decodePort w = .ok i at h
  unfold decodePort at h
  split at h <;> (try unfold ifReservedZero at h) <;> (try split_ifs at h) <;> cases h <;> simp

/-- What a port operation does: it is refused, or it is RESET, RX_BYTE or TICK, or it keeps what the command path does
not write. -/
theorem portOp_cases {w : PortWord} {i : Instr} {s t : State} (hd : decode (.portWord w) = .ok i)
    (h : exec i s = .next t) :
    (∃ r, t = s.refuse r) ∨ (s.OnTime ∧
      ((i = .reset ∧ t = resetBody s.noteOp) ∨
       (∃ b, i = .rxByte b ∧ t = rxByteBody Config.chip b s.noteOp) ∨
       (∃ n, i = .tick n ∧ t = tickBody Config.chip n s.noteOp) ∨
       CommandKeeps Config.chip s.noteOp t)) := by
  by_cases ho : s.OnTime
  · obtain rfl | ⟨b, rfl⟩ | ⟨n, rfl⟩ | ⟨_, _, _, rfl⟩ | ⟨_, rfl⟩ | ⟨_, rfl⟩ | ⟨_, rfl⟩ | ⟨_, rfl⟩ | ⟨p, rfl⟩ | ⟨_, rfl⟩ |
      ⟨_, rfl⟩ := decodePort_isPortOp hd <;>
      simp only [exec, execReset, execRxByte, execTick, execEnqueue, execSetBathTime, execSetBathTemp,
        execSetMaxBathTemp, execSetHumStep, execSetHumPct, execSetLight, execSetHeater, setHumPct,
        accept_onTime ho] at h
    · cases h; exact .inr ⟨ho, .inl ⟨rfl, rfl⟩⟩
    · cases h; exact .inr ⟨ho, .inr (.inl ⟨b, rfl, rfl⟩)⟩
    · cases h; exact .inr ⟨ho, .inr (.inr (.inl ⟨n, rfl, rfl⟩))⟩
    · cases h; exact .inr ⟨ho, .inr (.inr (.inr (.pushOnly _ _ _)))⟩
    · cases h; exact .inr ⟨ho, .inr (.inr (.inr (.setBathTimeBody _ _ _)))⟩
    · cases h; exact .inr ⟨ho, .inr (.inr (.inr (.pushOnly _ _ _)))⟩
    · cases h; exact .inr ⟨ho, .inr (.inr (.inr (.pushOnly _ _ _)))⟩
    · cases h; exact .inr ⟨ho, .inr (.inr (.inr (.pushOnly _ _ _)))⟩
    · split_ifs at h
      · cases h; exact .inl ⟨_, rfl⟩
      · cases h; exact .inr ⟨ho, .inr (.inr (.inr (.pushOnly _ _ _)))⟩
    · cases h; exact .inr ⟨ho, .inr (.inr (.inr (.relaySet _ _ _ _)))⟩
    · cases h; exact .inr ⟨ho, .inr (.inr (.inr (.relaySet _ _ _ _)))⟩
  · have hr : s.timeRegresses = true := by simpa [State.OnTime] using ho
    refine .inl ⟨.timeRegress, ?_⟩
    obtain rfl | ⟨b, rfl⟩ | ⟨n, rfl⟩ | ⟨_, _, _, rfl⟩ | ⟨_, rfl⟩ | ⟨_, rfl⟩ | ⟨_, rfl⟩ | ⟨_, rfl⟩ | ⟨p, rfl⟩ | ⟨_, rfl⟩ |
      ⟨_, rfl⟩ := decodePort_isPortOp hd <;>
      simp only [exec, execReset, execRxByte, execTick, execEnqueue, execSetBathTime, execSetBathTemp,
        execSetMaxBathTemp, execSetHumStep, execSetHumPct, execSetLight, execSetHeater, setHumPct, accept_late ho,
        hr, Bool.not_true, Bool.false_and, Bool.false_eq_true, if_false] at h <;>
      cases h <;> rfl

/-- What a step does: nothing with nothing presented; else the operation's word is refused, or the operation runs. -/
theorem step_parts {s t : State} (h : step s = .next t) :
    (s.inputs = [] ∧ t = s) ∨
    ∃ op rest, s.inputs = op :: rest ∧
      ((∃ r, t = (s.take op rest).refuse r) ∨
       ∃ i, decode (.portWord op.word) = .ok i ∧ exec i (s.take op rest) = .next t) := by
  obtain ⟨h1, e⟩ | ⟨op, rest, i, h1, hd, e⟩ | ⟨op, rest, r, h1, -, e⟩ := step_cases s <;> rw [e] at h
  · cases h; exact .inl ⟨h1, rfl⟩
  · exact .inr ⟨op, rest, h1, .inr ⟨i, hd, h⟩⟩
  · cases h; exact .inr ⟨op, rest, h1, .inl ⟨_, rfl⟩⟩

end Sys2Proof.Machine
end

