-- ==== Sys2Proof/Certificates/Slice0/Obligations.lean ====
section
/-! DEFINITION. The statements for the provers. `Config.chip` is the modelled block's configuration: its OPEN
parameters are constants without a body, so a statement about it holds for every value of them; its defaulted
parameters have the spec's defaults (P_FRAME_MAX = 64, P_PANEL_TYPES = 07, 09, temperatures 0..227, COIL_7180,
DATA_31_28, P_STRICT_LEN = false). -/

open Sys2Proof Sys2Proof.Machine

/-! ### Words used in the statements -/

namespace Sys2Proof.Statements

/-- The last six entries of a byte sequence (R273: `h[len(h) - 6 .. len(h)) if len(h) > 6 else h`). -/
def lastSix (h : List Byte) : List Byte := if 6 < h.length then h.drop (h.length - 6) else h

/-- A state after the steps every accepted RX_BYTE of `b` makes before the assembler: T_LAST_OP (R49), T_LAST_RX
(R171), and the tail detector (R273). -/
def afterReceipt (b : Byte) (s : State) : State :=
  { s with
    tLastOp := some s.now
    tLastRx := some s.now
    rxHist := lastSix (s.rxHist ++ [b])
    tailArmed := decide (lastSix (s.rxHist ++ [b]) = Config.chip.tailSig.toList) }

/-- A state after the session's part of an accepted TICK (R49, R312, R313): the elapsed seconds, and the minutes if
they are not the last published. -/
def afterSession (s : State) : State :=
  if s.sessionActive then
    { s with
      tLastOp := some s.now
      sessionElapsedS := (s.now - s.sessionStartT) / 1000
      sessionLastPubMin := some ((s.now - s.sessionStartT) / 60000)
      events := s.events ++ if s.sessionLastPubMin = some ((s.now - s.sessionStartT) / 60000) then []
        else [⟨.sessionUptime, uptimeValue Config.chip ((s.now - s.sessionStartT) / 60000)⟩] }
  else { s with tLastOp := some s.now }

/-- A state whose frame was discarded after it was unescaped to `u`: its diagnostics are those of the unescaping and one
more record; `unesc` is the model's own buffer (log entry 4). -/
def discarded (s u : State) (r : Diag) : State := { s with diags := u.diags ++ [r], unesc := [] }

/-- A state with the assembler idle (R174). -/
def idle (s : State) : State := { s with asmState := .waiting, fbuf := [] }

/-- Each operation code of R101 that has reserved operand bits, and those bits. -/
def reservedBits : List (Byte × PortWord) :=
  [(0x00#8, 0x00FFFFFFFFFFFFFF#64), (0x01#8, 0x00FFFFFFFFFFFF00#64), (0x02#8, 0x00FFFFFFFFFF0000#64),
   (0x10#8, 0x00FFFFFFFFFF0000#64), (0x11#8, 0x00FFFFFFFFFF0000#64), (0x12#8, 0x00FFFFFFFFFF0000#64),
   (0x13#8, 0x00FFFFFFFFFFFF00#64), (0x14#8, 0x00FFFFFFFFFFFF00#64), (0x15#8, 0x00FFFFFFFFFFFFFE#64),
   (0x16#8, 0x00FFFFFFFFFFFFFE#64)]

/-- The operation codes of R101. -/
def definedOps : List Byte :=
  [0x00#8, 0x01#8, 0x02#8, 0x03#8, 0x10#8, 0x11#8, 0x12#8, 0x13#8, 0x14#8, 0x15#8, 0x16#8]

/-- The bytes of a sequence received one after the other by the assembler. -/
def assembleAll (bytes : List Byte) (s : State) : State :=
  bytes.foldl (fun s b => assemble Config.chip b s) s

/-- A CRC as it stands in a packet, high byte first (R72, R206). -/
def crcField (r : U16) : List Byte := [r.extractLsb' 8 8, r.extractLsb' 0 8]

/-- The operations of the periodic activity and of the command path (R48): TICK, ENQUEUE and the SET operations. -/
def hostSide : Instr → Bool
  | .tick _ => true
  | .enqueue _ _ _ => true
  | .setBathTime _ => true
  | .setBathTemp _ => true
  | .setMaxBathTemp _ => true
  | .setHumStep _ => true
  | .setHumPct _ => true
  | .setLight _ => true
  | .setHeater _ => true
  | _ => false

/-- The minutes of R224 at which the bucket rule does not come back to the same value. -/
def bucketMisses (m : Nat) : Bool :=
  (124 ≤ m && m ≤ 127) || (184 ≤ m && m ≤ 191) || (244 ≤ m && m ≤ 255) || (304 ≤ m && m ≤ 319) ||
  (364 ≤ m && m ≤ 383) || (424 ≤ m && m ≤ 447) || (484 ≤ m && m ≤ 511)

end Sys2Proof.Statements

open Sys2Proof.Statements

/-! ### Encoding -/

/-- Every well-formed instruction, at every operand, is what its encoding decodes to. -/
def Obligations.EncodedInstructionDecodesToItself : Prop :=
  ∀ i : Instr, i.wf = true → decode (encode i) = .ok i

/-- Whatever the decoder accepts is the encoding of the instruction it answers, which is well-formed: no bit is
dropped and no reserved word falls through. -/
def Obligations.DecodedInstructionEncodesBack : Prop :=
  ∀ (e : Encoded) (i : Instr), decode e = .ok i → encode i = e ∧ i.wf = true

/-- Words written out from R101, R151 and R97 decode to their instructions. -/
def Obligations.WrittenWordsDecode : Prop :=
  decode (.portWord 0x0000000000000000#64) = .ok .reset ∧
  decode (.portWord 0x0100000000000098#64) = .ok (.rxByte 0x98#8) ∧
  decode (.portWord 0x0200000000000003#64) = .ok (.tick 3#16) ∧
  decode (.portWord 0x030740020000005E#64) = .ok (.enqueue 0x07#8 0x4002#16 0x5E#32) ∧
  decode (.portWord 0x1600000000000001#64) = .ok (.setHeater true) ∧
  decode (.wireByte 0x9C#8) = .ok .endMarker ∧
  decode (.escapePair 0x91#8 0x67#8) = .ok .escStartMarker ∧
  decode (.packet 0x7180#16 0x3#32) = .ok (.msgRelayCoil 0x3#32) ∧
  decode (.packet 0xB6FF#16 0x10000000#32) = .ok (.msgSensorFault 0xFF#8 0x10000000#32)

/-- R103: a word whose OP is not in R101's table is refused with BAD_OP, one with a reserved bit set with
BAD_OPERAND; nothing else changes (the operation is taken from the port, and its timestamp is latched). -/
def Obligations.ReservedWordsAreRefused : Prop :=
  ∀ (s : State) (op : PortOp) (rest : List PortOp), s.inputs = op :: rest →
    (opOf op.word ∉ definedOps →
      step s = .next { s with inputs := rest, now := op.now, fault := { s.fault with badOp := true } }) ∧
    (∀ code mask, (code, mask) ∈ reservedBits → opOf op.word = code → op.word &&& mask ≠ 0#64 →
      step s = .next { s with inputs := rest, now := op.now, fault := { s.fault with badOperand := true } })

/-! ### The step -/

/-- A step takes the oldest presented operation, latches its timestamp and runs the instruction its word decodes to;
with none presented the state stays (the port's list and the latch are the model's: log entries 1, 2, 5). -/
def Obligations.StepRunsTheDecodedOperation : Prop :=
  (∀ (s : State) (op : PortOp) (rest : List PortOp) (i : Instr), s.inputs = op :: rest →
    decode (.portWord op.word) = .ok i → step s = exec i { s with inputs := rest, now := op.now }) ∧
  (∀ s : State, s.inputs = [] → step s = .next s)

/-- An RX_BYTE of a marker byte runs that marker's row, after the receipt's own steps (that the wire rows are
instructions run inside RX_BYTE is the model's reading: log entry 7). -/
def Obligations.RxByteRunsTheMarkerRows : Prop :=
  ∀ s : State, s.OnTime →
    exec (.rxByte 0x98#8) s = exec .startMarker (afterReceipt 0x98#8 s) ∧
    exec (.rxByte 0x9C#8) s = exec .endMarker (afterReceipt 0x9C#8 s)

/-- The RX_BYTE that closes a frame holding an escaped packet with its right CRC and a type that is no panel type runs
the instruction the packet's code and payload decode to. A content may be longer than its eight bytes: the CRC is over the
whole content (R136) and the bytes from the ninth on are ignored (R196, P_STRICT_LEN = false). (The wire rows as
instructions, and `unesc`: log entries 7, 4.) -/
def Obligations.ClosingByteRunsTheMessage : Prop :=
  ∀ (s : State) (address type : Byte) (code : U16) (data : U32) (extra content : List Byte), s.OnTime →
    s.asmState = .inFrame → content = contentBytes address type code data ++ extra →
    s.fbuf = 0x98#8 :: escEncode (content ++ crcField (crc16 content)) → type ≠ 0x07#8 → type ≠ 0x09#8 →
    exec (.rxByte 0x9C#8) s =
      exec (decodePacket code data) { idle (afterReceipt 0x9C#8 s) with unesc := [] }

/-- R154, R157: ESC_DECODE copies a byte other than 0x91, runs for each escape pair it meets the row the pair decodes to,
and puts out 0x91 with UNKNOWN_ESCAPE 0x100 for a last byte 0x91 (log entries 4, 7). -/
def Obligations.UnescapingRunsTheEscapeRows : Prop :=
  (∀ (f : Byte) (rest : List Byte) (s t : State) (i : Instr), decode (.escapePair 0x91#8 f) = .ok i →
    exec i s = .next t → unescape (0x91#8 :: f :: rest) s = unescape rest t) ∧
  (∀ (b : Byte) (rest : List Byte) (s : State), b ≠ 0x91#8 →
    unescape (b :: rest) s = unescape rest { s with unesc := s.unesc ++ [b] }) ∧
  (∀ s : State, unescape [] s = s) ∧
  ∀ s : State, unescape [0x91#8] s = { s with
    unesc := s.unesc ++ [0x91#8], diags := s.diags ++ [⟨.unknownEscape, 0x100#32⟩] }

/-- No instruction and no step stops: every one answers a next state (R13, R360, R361: faults and refusals are
recorded, and later operations run normally; that they are next states is log entry 6). -/
def Obligations.NoInstructionStops : Prop :=
  (∀ (i : Instr) (s : State), ∃ t, exec i s = .next t) ∧ ∀ s : State, ∃ t, step s = .next t

/-! ### Power-on, RESET and the refusals -/

/-- R381: the registers at power-on; a RESET presented first changes nothing but T_LAST_OP. -/
def Obligations.PowerOnRegisters : Prop :=
  State.reset.asmState = .waiting ∧ State.reset.fbuf = [] ∧ State.reset.rxHist = [] ∧
  State.reset.tailArmed = false ∧ State.reset.tLastRx = none ∧ State.reset.txq = [] ∧
  State.reset.heatingStatus = false ∧ State.reset.coilHeating = false ∧ State.reset.lightTruth = false ∧
  State.reset.heaterTruth = false ∧ State.reset.truthLearned = false ∧ State.reset.lastCmdLight = none ∧
  State.reset.lastCmdHeater = none ∧ State.reset.btPending = none ∧ State.reset.btSetT = 0 ∧
  State.reset.sessionActive = false ∧ State.reset.sessionStartT = 0 ∧ State.reset.sessionElapsedS = 0 ∧
  State.reset.sessionLastPubMin = none ∧ State.reset.lastPubTarget = none ∧ State.reset.lastPubBt = none ∧
  (∀ f : Family, State.reset.caches.get f = ⟨0#32, false⟩) ∧ State.reset.codeB6Lo = 0x00#8 ∧
  State.reset.ready = false ∧ State.reset.fault = ⟨false, false, false, false, false⟩ ∧
  State.reset.tLastOp = none ∧
  ∀ now, exec .reset { State.reset with now := now } = .next { State.reset with now := now, tLastOp := some now }

/-- R380: RESET installs the power-on value of every register but FAULT, which stays, and T_LAST_OP, which takes its
timestamp; it emits, reports and transmits nothing (`unesc` is the model's own: log entry 4). -/
def Obligations.ResetInstallsTheResetValues : Prop :=
  ∀ s : State, s.OnTime → exec .reset s = .next { s with
    asmState := .waiting, fbuf := [], rxHist := [], tailArmed := false, tLastRx := none, txq := []
    heatingStatus := false, coilHeating := false, lightTruth := false, heaterTruth := false, truthLearned := false
    lastCmdLight := none, lastCmdHeater := none, btPending := none, btSetT := 0
    sessionActive := false, sessionStartT := 0, sessionElapsedS := 0, sessionLastPubMin := none
    lastPubTarget := none, lastPubBt := none
    caches := ⟨⟨0#32, false⟩, ⟨0#32, false⟩, ⟨0#32, false⟩, ⟨0#32, false⟩, ⟨0#32, false⟩, ⟨0#32, false⟩,
      ⟨0#32, false⟩, ⟨0#32, false⟩, ⟨0#32, false⟩, ⟨0#32, false⟩, ⟨0#32, false⟩, ⟨0#32, false⟩, ⟨0#32, false⟩,
      ⟨0#32, false⟩⟩
    codeB6Lo := 0x00#8, ready := false, tLastOp := some s.now, unesc := [] }

/-- R392, R361: a port operation whose timestamp is less than T_LAST_OP is refused with TIME_REGRESS and changes nothing
else; with an equal or later one, or with T_LAST_OP = NONE, none is. That an RX_BYTE is refused so too is the model's
reading (log entry 15: R170 says "never a refusal" of it). -/
def Obligations.TimeRegressIsRefused : Prop :=
  ∀ (w : PortWord) (i : Instr) (s : State), decode (.portWord w) = .ok i →
    (∀ t, s.tLastOp = some t → s.now < t →
      exec i s = .next { s with fault := { s.fault with timeRegress := true } }) ∧
    ((∀ t, s.tLastOp = some t → t ≤ s.now) →
      ∀ u, exec i s = .next u → u.fault.timeRegress = s.fault.timeRegress)

/-! ### RX_BYTE and the assembler -/

/-- R170, R171, R273: an accepted RX_BYTE makes the receipt's steps, then gives the byte to the assembler; whatever that
does with it, T_LAST_RX is its timestamp, RXHIST ends in it, and the block is armed exactly if RXHIST is P_TAIL_SIG. -/
def Obligations.RxByteNotesThenAssembles : Prop :=
  ∀ (b : Byte) (s t : State), s.OnTime → t = assemble Config.chip b (afterReceipt b s) →
    exec (.rxByte b) s = .next t ∧ t.tLastRx = some s.now ∧ t.rxHist = lastSix (s.rxHist ++ [b]) ∧
    (t.tailArmed = true ↔ t.rxHist = Config.chip.tailSig.toList)

/-- R173: a start marker, in either state, opens a frame and drops what was open. -/
def Obligations.StartMarkerOpensAFrame : Prop :=
  ∀ s : State, exec .startMarker s = .next { s with asmState := .inFrame, fbuf := [0x98#8] }

/-- R174, R175: an end marker while WAITING changes nothing; while IN_FRAME it closes the frame, which is dropped
silently at 6 bytes or fewer and decoded otherwise. -/
def Obligations.EndMarkerClosesTheFrame : Prop :=
  ∀ s : State,
    (s.asmState = .waiting → exec .endMarker s = .next s) ∧
    (s.asmState = .inFrame → s.fbuf.length + 1 ≤ 6 → exec .endMarker s = .next (idle s)) ∧
    (s.asmState = .inFrame → 6 < s.fbuf.length + 1 →
      exec .endMarker s = .next (decodeFrame Config.chip (s.fbuf ++ [0x9C#8]) (idle s)))

/-- R177, R176, R178: a byte other than 0x98 is dropped while WAITING; one that is no marker is appended while IN_FRAME
with room, and at P_FRAME_MAX - 1 = 63 buffered bytes drops the frame with FRAME_TOO_LONG. -/
def Obligations.PlainByteIsDroppedOrAppended : Prop :=
  ∀ (b : Byte) (s : State), s.OnTime → b ≠ 0x98#8 →
    (s.asmState = .waiting → exec (.rxByte b) s = .next (afterReceipt b s)) ∧
    (b ≠ 0x9C#8 → s.asmState = .inFrame → s.fbuf.length ≠ 63 →
      exec (.rxByte b) s = .next { afterReceipt b s with fbuf := s.fbuf ++ [b] }) ∧
    (b ≠ 0x9C#8 → s.asmState = .inFrame → s.fbuf.length = 63 →
      exec (.rxByte b) s =
        .next { idle (afterReceipt b s) with diags := s.diags ++ [⟨.frameTooLong, 0#32⟩] })

/-- R151, R156: the escape table in both directions, and what an unknown pair puts out and reports (the buffer `unesc`
is the model's own: log entry 4). -/
def Obligations.EscapePairsPutOutTheirByte : Prop :=
  ∀ s : State,
    exec .escEndMarker s = .next { s with unesc := s.unesc ++ [0x9C#8] } ∧
    exec .escStartMarker s = .next { s with unesc := s.unesc ++ [0x98#8] } ∧
    exec .escEscape s = .next { s with unesc := s.unesc ++ [0x91#8] } ∧
    escEncode [0x9C#8] = [0x91#8, 0x63#8] ∧ escEncode [0x98#8] = [0x91#8, 0x67#8] ∧
    escEncode [0x91#8] = [0x91#8, 0x6E#8] ∧
    ∀ f : Byte, f ≠ 0x63#8 → f ≠ 0x67#8 → f ≠ 0x6E#8 →
      exec (.escUnknown f) s = .next { s with
        unesc := s.unesc ++ [0x91#8], diags := s.diags ++ [⟨.unknownEscape, f.setWidth 32⟩] }

/-! ### TICK -/

/-- R276, R280: after the session's part, TICK sends the front frame and disarms exactly when the block is armed, a
frame waits, the transport holds no byte and the gap has elapsed; otherwise it does nothing more. -/
def Obligations.TickSendsOrHolds : Prop :=
  ∀ (n : U16) (s : State), s.OnTime →
    (∀ u f q, s.tLastRx = some u → s.txq = f :: q → s.tailArmed = true → n = 0#16 →
      Config.chip.gapMs Config.chip.model + u ≤ s.now →
      exec (.tick n) s = .next { afterSession s with
        txq := q, tailArmed := false, txOut := s.txOut ++ [f] }) ∧
    (s.txq = [] ∨ s.tailArmed = false ∨ n ≠ 0#16 ∨
        (∃ u, s.tLastRx = some u ∧ s.now < Config.chip.gapMs Config.chip.model + u) →
      exec (.tick n) s = .next (afterSession s))

/-- R312, R313: a TICK while a session runs updates the elapsed seconds, and publishes the minutes if they are not the
last published (a value that fits the record's 32 bits is the minutes, a larger one is free: log entry 11); with none it
does neither. -/
def Obligations.TickTimesTheSession : Prop :=
  ∀ (n : U16) (s t : State), s.OnTime → exec (.tick n) s = .next t →
    t.sessionActive = s.sessionActive ∧ t.sessionStartT = s.sessionStartT ∧
    (s.sessionActive = false → t.sessionElapsedS = s.sessionElapsedS ∧
      t.sessionLastPubMin = s.sessionLastPubMin ∧ t.events = s.events) ∧
    (s.sessionActive = true → t.sessionElapsedS = (s.now - s.sessionStartT) / 1000 ∧
      ∀ mins, mins = (s.now - s.sessionStartT) / 60000 →
        t.sessionLastPubMin = some mins ∧
        (s.sessionLastPubMin = some mins → t.events = s.events) ∧
        (s.sessionLastPubMin ≠ some mins → ∃ v, t.events = s.events ++ [⟨.sessionUptime, v⟩] ∧
          (mins < 2 ^ 32 → v = BitVec.ofNat 32 mins)))

/-- R314: whatever TICK emits is one SESSION_UPTIME, of a minute count that was not the last published, and that in a
state of `SessionOk` is above every one published before in the session (`uptimeValue` is the count, and free where it does
not fit 32 bits: log entry 11). -/
def Obligations.TickPublishesEachMinuteOnce : Prop :=
  ∀ (n : U16) (s t : State), exec (.tick n) s = .next t → t.events ≠ s.events →
    ∃ mins, s.sessionActive = true ∧ s.sessionLastPubMin ≠ some mins ∧ t.sessionLastPubMin = some mins ∧
      mins = (s.now - s.sessionStartT) / 60000 ∧
      t.events = s.events ++ [⟨.sessionUptime, uptimeValue Config.chip mins⟩] ∧
      (s.SessionOk → ∃ p, s.sessionLastPubMin = some p ∧ p < mins)

/-! ### ENQUEUE and the SET operations -/

/-- R270: ENQUEUE appends the command's frame to TXQ, or sets QUEUE_OVERFLOW where TXQ is full. -/
def Obligations.EnqueueAppendsTheFrame : Prop :=
  ∀ (type : Byte) (code : U16) (data : U32) (s : State), s.OnTime →
    (s.HasRoom Config.chip → exec (.enqueue type code data) s = .next { s with
      tLastOp := some s.now, txq := s.txq ++ [encodeFrame ⟨type, code, data⟩] }) ∧
    (¬ s.HasRoom Config.chip → exec (.enqueue type code data) s = .next { s with
      tLastOp := some s.now, fault := { s.fault with queueOverflow := true } })

/-- R271: at a full queue each pushing operation sets QUEUE_OVERFLOW and makes no later step (no pending target, no
debounce timestamp, no event); what it did before the push stands (for a 0xB000 packet: cache, READY, events). -/
def Obligations.FullQueueFaults : Prop :=
  ∀ s : State, s.OnTime → ¬ s.HasRoom Config.chip →
    (∀ i : Instr, ((∃ t c d, i = .enqueue t c d) ∨ (∃ m, i = .setBathTime m) ∨ (∃ c, i = .setBathTemp c) ∨
        (∃ c, i = .setMaxBathTemp c) ∨ (∃ n, i = .setHumStep n) ∨ (∃ p, i = .setHumPct p ∧ p.toNat ≤ 63)) →
      exec i s = .next { s with
        tLastOp := some s.now, fault := { s.fault with queueOverflow := true } }) ∧
    (s.truthLearned = true →
      exec (.setLight (!s.lightTruth)) s = .next { s with
        tLastOp := some s.now, fault := { s.fault with queueOverflow := true } } ∧
      exec (.setHeater (!s.heaterTruth)) s = .next { s with
        tLastOp := some s.now, fault := { s.fault with queueOverflow := true } }) ∧
    (∀ on, s.truthLearned = false → (∀ t, s.lastCmdLight = some t → t + Config.chip.debounceMs ≤ s.now) →
      exec (.setLight on) s = .next { s with
        tLastOp := some s.now, fault := { s.fault with queueOverflow := true } }) ∧
    (∀ on, s.truthLearned = false → (∀ t, s.lastCmdHeater = some t → t + Config.chip.debounceMs ≤ s.now) →
      exec (.setHeater on) s = .next { s with
        tLastOp := some s.now, fault := { s.fault with queueOverflow := true } }) ∧
    (∀ d id, (d, id) ∈ [(0x00060001#32, 0x20#32), (0x00130001#32, 0x21#32), (0x00130003#32, 0x22#32),
        (0x00140003#32, 0x23#32)] →
      exec (.msgDoorBlock d) s = .next { s with
        caches := { s.caches with cB000 := ⟨d, true⟩ }
        ready := false
        events := s.events ++ [⟨.readyStatus, 0#32⟩, ⟨.heaterState, id⟩]
        fault := { s.fault with queueOverflow := true } })

/-- R331, R245, R302, R304: SET_BATH_TIME clamps to 575, pushes the time merged into the 0x4002 cache, sets the
pending target, and publishes it on change. -/
def Obligations.SetBathTimePushesAndPends : Prop :=
  ∀ (minutes : U16) (m : Minutes) (s : State), s.OnTime → s.HasRoom Config.chip →
    m.val = min minutes.toNat 575 →
    exec (.setBathTime minutes) s = .next { s with
      tLastOp := some s.now
      txq := s.txq ++ [encodeFrame ⟨Config.chip.cmdType, 0x4002#16,
        (s.caches.c4002.data &&& 0xFFFFF000#32) ||| (btEncode m).setWidth 32⟩]
      btPending := some m
      btSetT := s.now
      lastPubBt := some m
      events := s.events ++ if s.lastPubBt = some m then [] else [⟨.bathTimeSetting, BitVec.ofNat 32 m.val⟩] }

/-- R332, R246, R333, R247: the temperature sets clamp to 0..227 °C and push 9 or 18 times the temperature merged into
the family's cache; nothing else changes. -/
def Obligations.SetTemperaturesPushTheMergedPayload : Prop :=
  ∀ (celsius : U16) (s : State), s.OnTime → s.HasRoom Config.chip →
    exec (.setBathTemp celsius) s = .next { s with
      tLastOp := some s.now
      txq := s.txq ++ [encodeFrame ⟨Config.chip.cmdType, 0x6000#16,
        (s.caches.c6000.data &&& 0xFFC007FF#32) ||| (BitVec.ofNat 32 (9 * min celsius.toNat 227) <<< 11)⟩] } ∧
    exec (.setMaxBathTemp celsius) s = .next { s with
      tLastOp := some s.now
      txq := s.txq ++ [encodeFrame ⟨Config.chip.cmdType, 0x4002#16,
        (s.caches.c4002.data &&& 0x000FFFFF#32) ||| (BitVec.ofNat 32 (18 * min celsius.toNat 227) <<< 20)⟩] }

/-- R334, R248, R335, R249: the humidity sets push the merged payload; a percent above 63 is refused with PCT_RANGE
and changes nothing else. -/
def Obligations.SetHumidityPushesOrRefuses : Prop :=
  (∀ (n : Byte) (s : State), s.OnTime → s.HasRoom Config.chip →
    exec (.setHumStep n) s = .next { s with
      tLastOp := some s.now
      txq := s.txq ++ [encodeFrame ⟨Config.chip.cmdType, 0x6001#16,
        (s.caches.c6001.data &&& 0xFFFFF00F#32) ||| (BitVec.ofNat 32 (40 + 8 * min n.toNat 10) <<< 4)⟩] }) ∧
  (∀ (p : Byte) (s : State), s.OnTime → s.HasRoom Config.chip → p.toNat ≤ 63 →
    exec (.setHumPct p) s = .next { s with
      tLastOp := some s.now
      txq := s.txq ++ [encodeFrame ⟨Config.chip.cmdType, 0x6001#16,
        (s.caches.c6001.data &&& 0xFFFFE07F#32) ||| (BitVec.ofNat 32 p.toNat <<< 7)⟩] }) ∧
  (∀ (p : Byte) (s : State), s.OnTime → 63 < p.toNat →
    exec (.setHumPct p) s = .next { s with fault := { s.fault with pctRange := true } })

/-- R307: once the relay truth is known, a set of the state last observed does nothing; a set of the other state
pushes the relay's command, with no debounce and no event. -/
def Obligations.LearnedRelaySetIsIdempotent : Prop :=
  ∀ (on : Bool) (s : State), s.OnTime → s.truthLearned = true →
    (on = s.lightTruth → exec (.setLight on) s = .next { s with tLastOp := some s.now }) ∧
    (on = s.heaterTruth → exec (.setHeater on) s = .next { s with tLastOp := some s.now }) ∧
    (on ≠ s.lightTruth → s.HasRoom Config.chip → exec (.setLight on) s = .next { s with
      tLastOp := some s.now, lastCmdLight := some s.now
      txq := s.txq ++ [encodeFrame (Config.chip.relayCmd .light on)] }) ∧
    (on ≠ s.heaterTruth → s.HasRoom Config.chip → exec (.setHeater on) s = .next { s with
      tLastOp := some s.now, lastCmdHeater := some s.now
      txq := s.txq ++ [encodeFrame (Config.chip.relayCmd .heater on)] })

/-- R308: before the first 0x7180 packet, a set less than P_DEBOUNCE_MS after the relay's last command is ignored;
any other pushes the relay's command and publishes the requested state at once. -/
def Obligations.UnlearnedRelaySetIsOptimisticAndDebounced : Prop :=
  ∀ (on : Bool) (s : State), s.OnTime → s.truthLearned = false →
    (∀ t, s.lastCmdLight = some t → s.now < t + Config.chip.debounceMs →
      exec (.setLight on) s = .next { s with tLastOp := some s.now }) ∧
    (∀ t, s.lastCmdHeater = some t → s.now < t + Config.chip.debounceMs →
      exec (.setHeater on) s = .next { s with tLastOp := some s.now }) ∧
    (s.HasRoom Config.chip → (∀ t, s.lastCmdLight = some t → t + Config.chip.debounceMs ≤ s.now) →
      exec (.setLight on) s = .next { s with
        tLastOp := some s.now, lastCmdLight := some s.now
        txq := s.txq ++ [encodeFrame (Config.chip.relayCmd .light on)]
        events := s.events ++ [⟨.lightStatus, if on then 1#32 else 0#32⟩] }) ∧
    (s.HasRoom Config.chip → (∀ t, s.lastCmdHeater = some t → t + Config.chip.debounceMs ≤ s.now) →
      exec (.setHeater on) s = .next { s with
        tLastOp := some s.now, lastCmdHeater := some s.now
        txq := s.txq ++ [encodeFrame (Config.chip.relayCmd .heater on)]
        events := s.events ++ [⟨.heaterStatus, if on then 1#32 else 0#32⟩] })

/-! ### The messages -/

/-- R225 (session source COIL_7180), R220. -/
def Obligations.HeaterEnableSetsTheStatus : Prop :=
  ∀ (d : U32) (s : State), exec (.msgHeaterEnable d) s = .next { s with
    caches := { s.caches with c3400 := ⟨d, true⟩ }
    heatingStatus := d.getLsbD 4
    events := s.events ++ [⟨.heaterStatus, if d.getLsbD 4 then 1#32 else 0#32⟩,
      ⟨.heaterState, if d.getLsbD 4 then 0x01#32 else 0x00#32⟩] }

/-- R226, R301, R303, R304: the bath time, filtered against a pending target, then the maximum temperature. -/
def Obligations.BathTimerIsFiltered : Prop :=
  ∀ (d : U32) (m : Minutes) (s : State), m = btDecode (d.extractLsb' 0 12) →
    (s.btPending = none → exec (.msgBathTimerMaxTemp d) s = .next { s with
      caches := { s.caches with c4002 := ⟨d, true⟩ }
      lastPubBt := some m
      events := s.events ++ (if s.lastPubBt = some m then [] else [⟨.bathTimeSetting, BitVec.ofNat 32 m.val⟩]) ++
        [⟨.maxBathTemperature, (d.extractLsb' 20 12).setWidth 32⟩] }) ∧
    (∀ p, s.btPending = some p →
      ((s.now < s.btSetT + Config.chip.btWindowMs ∧
          (Config.chip.btTol : Int) < |(m.val : Int) - (p.val : Int)|) ∨ s.heatingStatus = false) →
      exec (.msgBathTimerMaxTemp d) s = .next { s with
        caches := { s.caches with c4002 := ⟨d, true⟩ }
        lastPubBt := some p
        events := s.events ++ (if s.lastPubBt = some p then [] else [⟨.bathTimeSetting, BitVec.ofNat 32 p.val⟩]) ++
          [⟨.maxBathTemperature, (d.extractLsb' 20 12).setWidth 32⟩] }) ∧
    (∀ p, s.btPending = some p →
      (s.btSetT + Config.chip.btWindowMs ≤ s.now ∨
          |(m.val : Int) - (p.val : Int)| ≤ (Config.chip.btTol : Int)) → s.heatingStatus = true →
      exec (.msgBathTimerMaxTemp d) s = .next { s with
        caches := { s.caches with c4002 := ⟨d, true⟩ }
        btPending := none
        lastPubBt := some m
        events := s.events ++ (if s.lastPubBt = some m then [] else [⟨.bathTimeSetting, BitVec.ofNat 32 m.val⟩]) ++
          [⟨.maxBathTemperature, (d.extractLsb' 20 12).setWidth 32⟩] })

/-- R227, R228, R233, R234, R235, R236: the messages that only fill their cache and emit one event. -/
def Obligations.ReadoutsEmitOneEvent : Prop :=
  ∀ (d : U32) (s : State),
    exec (.msgPcbLimit d) s = .next { s with
      caches := { s.caches with c4003 := ⟨d, true⟩ }
      events := s.events ++ [⟨.overheatingPcbLimit, (d.extractLsb' 11 11).setWidth 32⟩] } ∧
    exec (.msgDatetime d) s = .next { s with
      caches := { s.caches with c4200 := ⟨d, true⟩ }, events := s.events ++ [⟨.datetime, d⟩] } ∧
    exec (.msgTankLevel d) s = .next { s with
      caches := { s.caches with c7280 := ⟨d, true⟩ }
      events := s.events ++ [⟨.waterTankLevel,
        if d.extractLsb' 11 2 = 0#2 then 0#32 else if d.extractLsb' 11 2 = 1#2 then 50#32
        else if d.extractLsb' 11 2 = 2#2 then 100#32 else 0xFF#32⟩] } ∧
    exec (.msgDisallowedWindow d) s = .next { s with
      caches := { s.caches with c9000 := ⟨d, true⟩ }, events := s.events ++ [⟨.disallowedWindow, d⟩] } ∧
    exec (.msgTotalUptime d) s = .next { s with
      caches := { s.caches with c9400 := ⟨d, true⟩ }, events := s.events ++ [⟨.totalUptime, d⟩] } ∧
    exec (.msgRemainingTime d) s = .next { s with
      caches := { s.caches with c9401 := ⟨d, true⟩ }
      events := s.events ++ [⟨.remainingTime,
        if 0xFFFC#16 ≤ d.extractLsb' 0 16 then 0#32 else (d.extractLsb' 0 16).setWidth 32⟩] }

/-- R229, R221: the current temperature always, the target on change. -/
def Obligations.TemperaturesPublishTheTargetOnChange : Prop :=
  ∀ (d : U32) (s : State), exec (.msgTemperatures d) s = .next { s with
    caches := { s.caches with c6000 := ⟨d, true⟩ }
    lastPubTarget := some (d.extractLsb' 11 11)
    events := s.events ++ [⟨.temperature, (d.extractLsb' 0 11).setWidth 32⟩] ++
      if s.lastPubTarget = some (d.extractLsb' 11 11) then []
      else [⟨.temperatureSetting, (d.extractLsb' 11 11).setWidth 32⟩] }

/-- R230: in step mode the step, clamped to 0..10; in percent mode the target and the current percent; then the
priority. -/
def Obligations.HumidityDecodesByMode : Prop :=
  ∀ (d : U32) (s : State),
    (d.getLsbD 28 = false → ∀ step : Nat,
      (step : Int) = min (max (((d.extractLsb' 4 8).toNat - 40 : Int) / 8) 0) 10 →
      exec (.msgHumidity d) s = .next { s with
        caches := { s.caches with c6001 := ⟨d, true⟩ }
        events := s.events ++ [⟨.humidityStep, BitVec.ofNat 32 step⟩,
          ⟨.humidityPriority, (d.extractLsb' 14 2).setWidth 32⟩] }) ∧
    (d.getLsbD 28 = true → exec (.msgHumidity d) s = .next { s with
      caches := { s.caches with c6001 := ⟨d, true⟩ }
      events := s.events ++ [⟨.humidityPercent, (d.extractLsb' 7 6).setWidth 32⟩,
        ⟨.humidityCurrent, (d.extractLsb' 0 7).setWidth 32⟩,
        ⟨.humidityPriority, (d.extractLsb' 14 2).setWidth 32⟩] })

/-- R231: the notice is published only while HEATING_STATUS is 0. -/
def Obligations.OperationBlockedOnlyWhileNotHeating : Prop :=
  ∀ (d : U32) (s : State), exec (.msgOperationBlocked d) s = .next { s with
    caches := { s.caches with c7000 := ⟨d, true⟩ }
    events := s.events ++ if s.heatingStatus then [] else [⟨.heaterState, 0x12#32⟩] }

/-- R232, R305, R309 to R311 (session source COIL_7180): the light and heater truth, the status, and the session's
start or stop. -/
def Obligations.RelayCoilLearnsTheTruth : Prop :=
  ∀ (d : U32) (light h : Bool) (s : State),
    light = decide (d &&& Config.chip.lightMask Config.chip.model ≠ 0#32) →
    h = decide ((d >>> (Config.chip.coilShift Config.chip.model).val) &&& 0x7#32 ≠ 0#32) →
    exec (.msgRelayCoil d) s = .next { s with
      caches := { s.caches with c7180 := ⟨d, true⟩ }
      coilHeating := h
      lightTruth := light
      heaterTruth := h
      truthLearned := true
      sessionActive := h
      sessionStartT := if h && !s.sessionActive then s.now else s.sessionStartT
      sessionElapsedS := if h && !s.sessionActive then 0
        else if !h && s.sessionActive then (s.now - s.sessionStartT) / 1000 else s.sessionElapsedS
      sessionLastPubMin := if h && !s.sessionActive then some 0 else s.sessionLastPubMin
      events := s.events ++ [⟨.lightStatus, if light then 1#32 else 0#32⟩,
        ⟨.heaterState, if h then 0x02#32 else if s.heatingStatus then 0x03#32 else 0x00#32⟩] ++
        if h && !s.sessionActive then [⟨.sessionUptime, 0#32⟩] else [] }

/-- R237: the ready flag, and for the four literals the status and the acknowledgement, which a full queue turns into
QUEUE_OVERFLOW with the rest standing (R271). -/
def Obligations.DoorBlockAcknowledges : Prop :=
  ∀ (d : U32) (s t : State),
    t = { s with
      caches := { s.caches with cB000 := ⟨d, true⟩ }
      ready := !d.getLsbD 0
      events := s.events ++ [⟨.readyStatus, if d.getLsbD 0 then 0#32 else 1#32⟩] } →
    (d ≠ 0x00060001#32 → d ≠ 0x00130001#32 → d ≠ 0x00130003#32 → d ≠ 0x00140003#32 →
      exec (.msgDoorBlock d) s = .next t) ∧
    (∀ l id, (d, l, id) ∈ [(0x00060001#32, AckLiteral.b00060001, 0x20#32),
        (0x00130001#32, .b00130001, 0x21#32), (0x00130003#32, .b00130003, 0x22#32),
        (0x00140003#32, .b00140003, 0x23#32)] →
      (s.HasRoom Config.chip → exec (.msgDoorBlock d) s = .next { t with
        events := t.events ++ [⟨.heaterState, id⟩]
        txq := s.txq ++ [encodeFrame (Config.chip.ackCmd l)] }) ∧
      (¬ s.HasRoom Config.chip → exec (.msgDoorBlock d) s = .next { t with
        events := t.events ++ [⟨.heaterState, id⟩]
        fault := { s.fault with queueOverflow := true } }))

/-- R238 (nibble source DATA_31_28). -/
def Obligations.SensorFaultReadsTheTopNibble : Prop :=
  ∀ (lo : Byte) (d : U32) (s : State), exec (.msgSensorFault lo d) s = .next { s with
    caches := { s.caches with cB6 := ⟨d, true⟩ }
    codeB6Lo := lo
    events := s.events ++ if d.extractLsb' 28 4 = 0x3#4 then [⟨.heaterState, 0x10#32⟩]
      else if d.extractLsb' 28 4 = 0x1#4 then [⟨.heaterState, 0x11#32⟩] else [] }

/-- R239: an unhandled code is reported, and nothing else happens. -/
def Obligations.UnhandledCodeIsOnlyReported : Prop :=
  ∀ (code : U16) (d : U32) (s : State), exec (.msgUnhandled code d) s = .next { s with
    diags := s.diags ++ [⟨.unhandledCode, code.setWidth 32⟩] }

/-! ### The codecs -/

/-- R159: unescaping what was escaped gives it back, with no diagnostic. -/
def Obligations.UnescapeInvertsEscape : Prop :=
  ∀ (l : List Byte) (s : State), unescape (escEncode l) s = { s with unesc := s.unesc ++ l }

/-- R209: markers only at the ends, and 12 bytes plus one for each reserved packet byte, at most 22. -/
def Obligations.EncodedFrameHasMarkersOnlyAtItsEnds : Prop :=
  ∀ cmd : Cmd, WireFrame (encodeFrame cmd) ∧
    (encodeFrame cmd).length = 12 + (packetBytes 0x40#8 cmd.type cmd.code cmd.data).countP
      (fun b => b == 0x91#8 || b == 0x98#8 || b == 0x9C#8)

/-- R133: the bit-serial register computes the same CRC, for every input. -/
def Obligations.BitSerialCrcAgrees : Prop :=
  ∀ bytes : List Byte, crc16Serial bytes = crc16 bytes

/-- The CRC of a content followed by its own CRC is 0 (95_test_vectors.md section 2.2). -/
def Obligations.CrcOfStampedContentIsZero : Prop :=
  ∀ bytes : List Byte, crc16 (bytes ++ crcField (crc16 bytes)) = 0#16

/-- R138: a packet of which one content byte (so also one content bit), or any part of the CRC, is not the one that
was stamped fails with CRC_MISMATCH and changes nothing else. -/
def Obligations.CorruptedPacketFailsTheCrc : Prop :=
  (∀ (pre post : List Byte) (x y : Byte) (s : State), x ≠ y → pre.length + post.length = 7 →
    checkPacket Config.chip (pre ++ [y] ++ post ++ crcField (crc16 (pre ++ [x] ++ post))) s = { s with
      diags := s.diags ++ [⟨.crcMismatch,
        ((crc16 (pre ++ [x] ++ post)).setWidth 32 <<< 16) ||| (crc16 (pre ++ [y] ++ post)).setWidth 32⟩] }) ∧
  (∀ (content : List Byte) (r : U16) (s : State), content.length = 8 → r ≠ crc16 content →
    checkPacket Config.chip (content ++ crcField r) s = { s with
      diags := s.diags ++ [⟨.crcMismatch, (r.setWidth 32 <<< 16) ||| (crc16 content).setWidth 32⟩] })

/-- R210: the frame of a command, fed to the assembler byte by byte from any state, is accepted and split into the
command: dispatched, or reported as panel traffic if its type is a panel type. -/
def Obligations.FedFrameIsDispatched : Prop :=
  ∀ (cmd : Cmd) (s : State),
    assembleAll (encodeFrame cmd) s =
      if cmd.type = 0x07#8 ∨ cmd.type = 0x09#8 then
        { idle s with
          unesc := []
          diags := s.diags ++ [⟨.panelTraffic, (cmd.type.setWidth 32 <<< 16) ||| cmd.code.setWidth 32⟩] }
      else dispatch Config.chip cmd.code cmd.data { idle s with unesc := [] }

/-- R181: whatever was received before, a start marker, a body without markers and an end marker are passed to DECODE
as one frame exactly. -/
def Obligations.AssemblerSelfSynchronises : Prop :=
  ∀ (body : List Byte) (s : State), (∀ b ∈ body, b ≠ 0x98#8 ∧ b ≠ 0x9C#8) → 5 ≤ body.length →
    body.length + 2 ≤ 64 →
    assembleAll (0x98#8 :: body ++ [0x9C#8]) s =
      decodeFrame Config.chip (0x98#8 :: body ++ [0x9C#8]) (idle s)

/-- R199, R194, R196, R197, R200, R358: a discarded frame changes no register and emits no event; its diagnostics are the
UNKNOWN_ESCAPE records of its unescaping and then the record of the first check that fails: the two length checks, then the
CRC, then the direction filter (P_STRICT_LEN = false; `unesc` is the model's own buffer: log entry 4). -/
def Obligations.DiscardedFrameChangesNoRegister : Prop :=
  ∀ (f p content : List Byte) (rx : U16) (s u : State),
    u = unescape (frameBody f) { s with unesc := [] } → p = u.unesc → content = p.take (p.length - 2) →
    rx = be16 (byteAt p (p.length - 2)) (byteAt p (p.length - 1)) →
    (∃ dg, u.diags = s.diags ++ dg ∧ ∀ d ∈ dg, d.code = .unknownEscape) ∧
    (p.length < 2 → decodeFrame Config.chip f s = discarded s u ⟨.frameTooShort, 1#32⟩) ∧
    (2 ≤ p.length → content.length < 8 → decodeFrame Config.chip f s = discarded s u ⟨.frameTooShort, 2#32⟩) ∧
    (8 ≤ content.length → crc16 content ≠ rx → decodeFrame Config.chip f s =
      discarded s u ⟨.crcMismatch, (rx.setWidth 32 <<< 16) ||| (crc16 content).setWidth 32⟩) ∧
    (8 ≤ content.length → crc16 content = rx → byteAt content 1 = 0x07#8 ∨ byteAt content 1 = 0x09#8 →
      decodeFrame Config.chip f s = discarded s u ⟨.panelTraffic,
        ((byteAt content 1).setWidth 32 <<< 16) ||| (be16 (byteAt content 2) (byteAt content 3)).setWidth 32⟩)

/-- R222, R223: the bucket rule, each way. -/
def Obligations.BucketRuleAsStated : Prop :=
  (∀ raw : BitVec 12, (raw.toNat ≤ 63 → (btDecode raw).val = raw.toNat) ∧
    (63 < raw.toNat → ((btDecode raw).val : Int) =
      min (max ((raw.toNat : Int) - 4 * (min (max ((raw.toNat : Int) / 64 - 1) 0) 7 + 1)) 0) 575)) ∧
  (∀ m : Minutes, (m.val ≤ 63 → (btEncode m).toNat = m.val) ∧
    (63 < m.val → ((btEncode m).toNat : Int) =
      min ((m.val : Int) + 4 * (min (max ((m.val : Int) / 64 - 1) 0) 7 + 1)) 4095))

/-- R224: the round trip of the bucket rule holds but for the listed minutes, where it gives four less. -/
def Obligations.BucketRoundTripFailsExactlyWhereListed : Prop :=
  ∀ m : Minutes, (btDecode (btEncode m)).val = if bucketMisses m.val then m.val - 4 else m.val

/-- R251: the payload each encode rule builds decodes to the value set, and the fields it does not own are the
cache's. -/
def Obligations.EncodedPayloadsDecodeToTheValueSet : Prop :=
  ∀ s : State,
    (∀ c, c ≤ 227 → (tgtRawOf (encTemp s c)).toNat = 9 * c ∧
      curRawOf (encTemp s c) = curRawOf s.caches.c6000.data) ∧
    (∀ c, c ≤ 227 → (maxtRawOf (encMaxTemp s c)).toNat = 18 * c ∧
      btRawOf (encMaxTemp s c) = btRawOf s.caches.c4002.data) ∧
    (∀ m : Minutes, btDecode (btRawOf (encBathTime s m)) = btDecode (btEncode m) ∧
      maxtRawOf (encBathTime s m) = maxtRawOf s.caches.c4002.data) ∧
    (∀ n, n ≤ 10 → humStepOf (encHumStep s n) = n ∧
      percentMode (encHumStep s n) = percentMode s.caches.c6001.data ∧
      priorityOf (encHumStep s n) = priorityOf s.caches.c6001.data) ∧
    (∀ p, p ≤ 63 → humPctOf (encHumPct s p) = p ∧
      percentMode (encHumPct s p) = percentMode s.caches.c6001.data ∧
      priorityOf (encHumPct s p) = priorityOf s.caches.c6001.data ∧
      pctCurOf (encHumPct s p) = pctCurOf s.caches.c6001.data)

/-! ### Invariants and rules of the whole machine -/

/-- R179. -/
def Obligations.StepKeepsTheAssemblerInvariant : Prop :=
  ∀ s t : State, s.AssemblerOk Config.chip → step s = .next t → t.AssemblerOk Config.chip

/-- R26: TXQ never holds more than P_QUEUE_DEPTH entries, and only fully encoded frames, each that of a command and of 12
to 22 bytes. -/
def Obligations.StepKeepsTheQueueInvariant : Prop :=
  ∀ s t : State, s.QueueOk Config.chip → step s = .next t → t.QueueOk Config.chip

/-- R23, R24: RXHIST keeps at most six bytes, and the block is armed only while they are the tail signature. -/
def Obligations.StepKeepsTheTailInvariant : Prop :=
  ∀ s t : State, s.TailOk Config.chip → step s = .next t → t.TailOk Config.chip

/-- R49, R392: every stored timestamp stays at most T_LAST_OP, which never decreases. -/
def Obligations.StepKeepsTheStampsInvariant : Prop :=
  ∀ s t : State, step s = .next t →
    (s.StampsOk → t.StampsOk) ∧ ∀ u, s.tLastOp = some u → ∃ v, t.tLastOp = some v ∧ u ≤ v

/-- The flags always are those of the last packets received, which the caches hold, and an unfilled cache is 0. -/
def Obligations.StepKeepsTheFlagsInvariant : Prop :=
  ∀ s t : State, s.FlagsOk Config.chip → s.CachesOk → step s = .next t →
    t.FlagsOk Config.chip ∧ t.CachesOk

/-- The power-on state meets every invariant above. -/
def Obligations.PowerOnMeetsTheInvariants : Prop :=
  State.reset.AssemblerOk Config.chip ∧ State.reset.QueueOk Config.chip ∧ State.reset.TailOk Config.chip ∧
  State.reset.StampsOk ∧ State.reset.SessionOk ∧ State.reset.FlagsOk Config.chip ∧ State.reset.CachesOk ∧ State.reset.FaultFree ∧
  Config.chip.Valid

/-- R362: a bit of FAULT that is set stays set, also by a RESET; at power-on none is. -/
def Obligations.FaultIsSticky : Prop :=
  (∀ s t : State, step s = .next t → s.fault.Within t.fault) ∧
  (∀ s t : State, exec .reset s = .next t → s.fault.Within t.fault) ∧
  State.reset.fault = ⟨false, false, false, false, false⟩

/-- R109 and the other ports: the output histories only grow, at their end (that they stand in State: log entry 3). -/
def Obligations.OutputHistoriesOnlyGrow : Prop :=
  ∀ s t : State, step s = .next t → s.events <+: t.events ∧ s.diags <+: t.diags ∧ s.txOut <+: t.txOut

/-- R282, R279: a step transmits only as a TICK that finds the last six bytes received to be the tail signature, no
byte pending and the gap elapsed, the block armed; it sends the front frame and disarms; and only the byte that completes
the tail arms again, so that one tail allows one transmission. -/
def Obligations.TransmissionIsCollisionFree : Prop :=
  ∀ s t : State, s.TailOk Config.chip → step s = .next t →
    (t.txOut ≠ s.txOut → ∃ op rest f u, s.inputs = op :: rest ∧
      decode (.portWord op.word) = .ok (.tick 0#16) ∧ s.txq = f :: t.txq ∧ s.tailArmed = true ∧
      s.rxHist = Config.chip.tailSig.toList ∧ s.tLastRx = some u ∧
      u + Config.chip.gapMs Config.chip.model ≤ op.now ∧ t.txOut = s.txOut ++ [f] ∧ t.tailArmed = false) ∧
    (s.tailArmed = false → t.tailArmed = true → ∃ op rest b, s.inputs = op :: rest ∧
      decode (.portWord op.word) = .ok (.rxByte b) ∧ lastSix (s.rxHist ++ [b]) = Config.chip.tailSig.toList)

/-- R272: a step leaves TXQ as it is, adds one frame at its back, transmits the one at its front, or is a RESET that
empties it. -/
def Obligations.QueueIsFirstInFirstOut : Prop :=
  ∀ s t : State, step s = .next t →
    (t.txq = s.txq ∧ t.txOut = s.txOut) ∨
    (∃ f, t.txq = s.txq ++ [f] ∧ t.txOut = s.txOut) ∨
    (∃ f, s.txq = f :: t.txq ∧ t.txOut = s.txOut ++ [f]) ∨
    (∃ op rest, s.inputs = op :: rest ∧ decode (.portWord op.word) = .ok .reset ∧ t.txq = [] ∧
      t.txOut = s.txOut)

/-- R48, R81, R85, R180: TICK, ENQUEUE and the SET operations change no receive-side register but TAIL_ARMED, no flag and
no family cache, and report no diagnostic; TAIL_ARMED changes only where a TICK clears it by sending a frame (R280). -/
def Obligations.HostSideKeepsTheReceiveSide : Prop :=
  ∀ (i : Instr) (s t : State), hostSide i = true → exec i s = .next t →
    t.asmState = s.asmState ∧ t.fbuf = s.fbuf ∧ t.rxHist = s.rxHist ∧ t.tLastRx = s.tLastRx ∧
    t.heatingStatus = s.heatingStatus ∧ t.coilHeating = s.coilHeating ∧ t.lightTruth = s.lightTruth ∧
    t.heaterTruth = s.heaterTruth ∧ t.truthLearned = s.truthLearned ∧ t.caches = s.caches ∧
    t.codeB6Lo = s.codeB6Lo ∧ t.ready = s.ready ∧ t.lastPubTarget = s.lastPubTarget ∧ t.diags = s.diags ∧
    t.unesc = s.unesc ∧
    (t.tailArmed = s.tailArmed ∨
      ((∃ n, i = .tick n) ∧ s.tailArmed = true ∧ t.tailArmed = false ∧ ∃ f, s.txq = f :: t.txq ∧
        t.txOut = s.txOut ++ [f]))

/-- R309 to R314, R49: a running session's start is not after T_LAST_OP, and the minutes it last published are at most those
passed by then (what TickPublishesEachMinuteOnce assumes). -/
def Obligations.StepKeepsTheSessionInvariant : Prop :=
  ∀ s t : State, s.SessionOk → step s = .next t → t.SessionOk
end

