-- ==== Sys2Proof/Laws/PerInstr.lean ====
section
/-! SUPPORT. A statement about every instruction as syntax: its encoding carries the fixed bits of its row of
spec/opcode_table.json. -/

namespace Sys2Proof.Laws.EncodingFitsTable

open Sys2Proof

/-- The bits the table numbers: a port word, a wire byte, a pair with its first byte high, a packet's code. -/
def tableBits : Encoded → BitVec 64
  | .portWord w => w
  | .wireByte b => b.setWidth 64
  | .escapePair a f => (a ++ f).setWidth 64
  | .packet code _ => code.setWidth 64

/-- A row's (mask, match) in spec/opcode_table.json. -/
def row : Instr → BitVec 64 × BitVec 64
  | .reset => (0xFFFFFFFFFFFFFFFF#64, 0x0000000000000000#64)
  | .rxByte _ => (0xFFFFFFFFFFFFFF00#64, 0x0100000000000000#64)
  | .tick _ => (0xFFFFFFFFFFFF0000#64, 0x0200000000000000#64)
  | .enqueue _ _ _ => (0xFF00000000000000#64, 0x0300000000000000#64)
  | .setBathTime _ => (0xFFFFFFFFFFFF0000#64, 0x1000000000000000#64)
  | .setBathTemp _ => (0xFFFFFFFFFFFF0000#64, 0x1100000000000000#64)
  | .setMaxBathTemp _ => (0xFFFFFFFFFFFF0000#64, 0x1200000000000000#64)
  | .setHumStep _ => (0xFFFFFFFFFFFFFF00#64, 0x1300000000000000#64)
  | .setHumPct _ => (0xFFFFFFFFFFFFFF00#64, 0x1400000000000000#64)
  | .setLight _ => (0xFFFFFFFFFFFFFFFE#64, 0x1500000000000000#64)
  | .setHeater _ => (0xFFFFFFFFFFFFFFFE#64, 0x1600000000000000#64)
  | .startMarker => (0xFF#64, 0x98#64)
  | .endMarker => (0xFF#64, 0x9C#64)
  | .escEndMarker => (0xFFFF#64, 0x9163#64)
  | .escStartMarker => (0xFFFF#64, 0x9167#64)
  | .escEscape => (0xFFFF#64, 0x916E#64)
  | .escUnknown _ => (0xFF00#64, 0x9100#64)
  | .msgHeaterEnable _ => (0xFFFF#64, 0x3400#64)
  | .msgBathTimerMaxTemp _ => (0xFFFF#64, 0x4002#64)
  | .msgPcbLimit _ => (0xFFFF#64, 0x4003#64)
  | .msgDatetime _ => (0xFFFF#64, 0x4200#64)
  | .msgTemperatures _ => (0xFFFF#64, 0x6000#64)
  | .msgHumidity _ => (0xFFFF#64, 0x6001#64)
  | .msgOperationBlocked _ => (0xFFFF#64, 0x7000#64)
  | .msgRelayCoil _ => (0xFFFF#64, 0x7180#64)
  | .msgTankLevel _ => (0xFFFF#64, 0x7280#64)
  | .msgDisallowedWindow _ => (0xFFFF#64, 0x9000#64)
  | .msgTotalUptime _ => (0xFFFF#64, 0x9400#64)
  | .msgRemainingTime _ => (0xFFFF#64, 0x9401#64)
  | .msgDoorBlock _ => (0xFFFF#64, 0xB000#64)
  | .msgSensorFault _ _ => (0xFF00#64, 0xB600#64)
  | .msgUnhandled _ _ => (0x0000#64, 0x0000#64)

/-- The encoding has the fixed bits of the instruction's row. -/
def Statement (i : Instr) : Prop := tableBits (encode i) &&& (row i).1 = (row i).2

theorem getLsbD_portWord (op : Byte) (x : BitVec 56) (i : Nat) :
    (portWord op x).getLsbD i = if i < 56 then x.getLsbD i else op.getLsbD (i - 56) := by
  unfold portWord
  exact (BitVec.getLsbD_append).trans (by simp)

/-- A port word with `k` operand bits agrees with its row above them. -/
theorem portWord_fits {k : Nat} (op : Byte) (x : BitVec k) (mask mtch : BitVec 64)
    (hlo : ∀ i, i < k → mask.getLsbD i = false) (hm : mtch = portWord op 0 &&& mask) :
    portWord op (x.setWidth 56) &&& mask = mtch := by
  subst hm
  apply BitVec.eq_of_getLsbD_eq
  intro i hi
  by_cases h : i < k
  · simp [hlo i h]
  · have hx : x.getLsbD i = false := BitVec.getLsbD_of_ge _ _ (by omega)
    simp [getLsbD_portWord, hx]

theorem reset : Statement .reset := by
  unfold Statement
  decide

theorem rxByte (b : Byte) : Statement (.rxByte b) :=
  portWord_fits _ _ 0xFFFFFFFFFFFFFF00#64 0x0100000000000000#64 (by decide) (by decide)

theorem tick (rxPending : U16) : Statement (.tick rxPending) :=
  portWord_fits _ _ 0xFFFFFFFFFFFF0000#64 0x0200000000000000#64 (by decide) (by decide)

theorem enqueue (type : Byte) (code : U16) (data : U32) : Statement (.enqueue type code data) := by
  have h := portWord_fits (k := 56) 0x03#8 (type ++ code ++ data)
    0xFF00000000000000#64 0x0300000000000000#64 (by decide) (by decide)
  rw [BitVec.setWidth_eq] at h
  exact h

theorem setBathTime (minutes : U16) : Statement (.setBathTime minutes) :=
  portWord_fits _ _ 0xFFFFFFFFFFFF0000#64 0x1000000000000000#64 (by decide) (by decide)

theorem setBathTemp (celsius : U16) : Statement (.setBathTemp celsius) :=
  portWord_fits _ _ 0xFFFFFFFFFFFF0000#64 0x1100000000000000#64 (by decide) (by decide)

theorem setMaxBathTemp (celsius : U16) : Statement (.setMaxBathTemp celsius) :=
  portWord_fits _ _ 0xFFFFFFFFFFFF0000#64 0x1200000000000000#64 (by decide) (by decide)

theorem setHumStep (step : Byte) : Statement (.setHumStep step) :=
  portWord_fits _ _ 0xFFFFFFFFFFFFFF00#64 0x1300000000000000#64 (by decide) (by decide)

theorem setHumPct (percent : Byte) : Statement (.setHumPct percent) :=
  portWord_fits _ _ 0xFFFFFFFFFFFFFF00#64 0x1400000000000000#64 (by decide) (by decide)

theorem setLight (on : Bool) : Statement (.setLight on) :=
  portWord_fits _ _ 0xFFFFFFFFFFFFFFFE#64 0x1500000000000000#64 (by decide) (by decide)

theorem setHeater (on : Bool) : Statement (.setHeater on) :=
  portWord_fits _ _ 0xFFFFFFFFFFFFFFFE#64 0x1600000000000000#64 (by decide) (by decide)

theorem startMarker : Statement .startMarker := by
  unfold Statement
  decide

theorem endMarker : Statement .endMarker := by
  unfold Statement
  decide

theorem escEndMarker : Statement .escEndMarker := by
  unfold Statement
  decide

theorem escStartMarker : Statement .escStartMarker := by
  unfold Statement
  decide

theorem escEscape : Statement .escEscape := by
  unfold Statement
  decide

theorem escUnknown (follow : Byte) : Statement (.escUnknown follow) := by
  show (0x91#8 ++ follow).setWidth 64 &&& 0xFF00#64 = 0x9100#64
  revert follow
  decide

theorem msgHeaterEnable (data : U32) : Statement (.msgHeaterEnable data) := by
  show (0x3400#16).setWidth 64 &&& 0xFFFF#64 = 0x3400#64
  decide

theorem msgBathTimerMaxTemp (data : U32) : Statement (.msgBathTimerMaxTemp data) := by
  show (0x4002#16).setWidth 64 &&& 0xFFFF#64 = 0x4002#64
  decide

theorem msgPcbLimit (data : U32) : Statement (.msgPcbLimit data) := by
  show (0x4003#16).setWidth 64 &&& 0xFFFF#64 = 0x4003#64
  decide

theorem msgDatetime (data : U32) : Statement (.msgDatetime data) := by
  show (0x4200#16).setWidth 64 &&& 0xFFFF#64 = 0x4200#64
  decide

theorem msgTemperatures (data : U32) : Statement (.msgTemperatures data) := by
  show (0x6000#16).setWidth 64 &&& 0xFFFF#64 = 0x6000#64
  decide

theorem msgHumidity (data : U32) : Statement (.msgHumidity data) := by
  show (0x6001#16).setWidth 64 &&& 0xFFFF#64 = 0x6001#64
  decide

theorem msgOperationBlocked (data : U32) : Statement (.msgOperationBlocked data) := by
  show (0x7000#16).setWidth 64 &&& 0xFFFF#64 = 0x7000#64
  decide

theorem msgRelayCoil (data : U32) : Statement (.msgRelayCoil data) := by
  show (0x7180#16).setWidth 64 &&& 0xFFFF#64 = 0x7180#64
  decide

theorem msgTankLevel (data : U32) : Statement (.msgTankLevel data) := by
  show (0x7280#16).setWidth 64 &&& 0xFFFF#64 = 0x7280#64
  decide

theorem msgDisallowedWindow (data : U32) : Statement (.msgDisallowedWindow data) := by
  show (0x9000#16).setWidth 64 &&& 0xFFFF#64 = 0x9000#64
  decide

theorem msgTotalUptime (data : U32) : Statement (.msgTotalUptime data) := by
  show (0x9400#16).setWidth 64 &&& 0xFFFF#64 = 0x9400#64
  decide

theorem msgRemainingTime (data : U32) : Statement (.msgRemainingTime data) := by
  show (0x9401#16).setWidth 64 &&& 0xFFFF#64 = 0x9401#64
  decide

theorem msgDoorBlock (data : U32) : Statement (.msgDoorBlock data) := by
  show (0xB000#16).setWidth 64 &&& 0xFFFF#64 = 0xB000#64
  decide

theorem msgSensorFault (lo : Byte) (data : U32) : Statement (.msgSensorFault lo data) := by
  show (0xB6#8 ++ lo).setWidth 64 &&& 0xFF00#64 = 0xB600#64
  revert lo
  decide

theorem msgUnhandled (code : U16) (data : U32) : Statement (.msgUnhandled code data) := by
  simp [Statement, row]

end Sys2Proof.Laws.EncodingFitsTable
end

