-- ==== Sys2Proof/Tests/Slice0.lean ====
section
/-! SUPPORT. The writer's own tests: the well-formedness smoke test, a written-out word for every instruction, vectors
of spec/95_test_vectors.md under its example configuration EX, and a witness for the hypotheses of each statement. -/

open Sys2Proof Sys2Proof.Machine Sys2Proof.Statements

namespace Sys2Proof.Tests

/- One theorem after the other: each kernel evaluation waits for what stands before it. -/
set_option Elab.async false

/-! ### Well-formedness: the ill-formed terms -/

/-- 91 63 is ESC_END_MARKER, not an unknown escape (R151, R156). -/
theorem test_wf_unknown_escape_63 : (Instr.escUnknown 0x63#8).wf = false := by decide
theorem test_wf_unknown_escape_67 : (Instr.escUnknown 0x67#8).wf = false := by decide
theorem test_wf_unknown_escape_6E : (Instr.escUnknown 0x6E#8).wf = false := by decide
/-- A code of the map is not unhandled (R97, R239). -/
theorem test_wf_unhandled_7180 : (Instr.msgUnhandled 0x7180#16 0#32).wf = false := by decide
theorem test_wf_unhandled_B6xx : (Instr.msgUnhandled 0xB67F#16 0#32).wf = false := by decide
theorem test_wf_unhandled_exact : Instr.exactCodes.all (fun c => !(Instr.msgUnhandled c 0#32).wf) = true := by decide
theorem test_wf_holds : (Instr.escUnknown 0x62#8).wf = true ∧ (Instr.msgUnhandled 0x1234#16 0#32).wf = true ∧
    (Instr.msgUnhandled 0xB700#16 0#32).wf = true := by decide

/-! ### Decoding: words written out from R101, R151 and R97 -/

theorem test_decode_reset : decode (.portWord 0x0000000000000000#64) = .ok .reset := by rfl
theorem test_decode_rxByte : decode (.portWord 0x01000000000000A5#64) = .ok (.rxByte 0xA5#8) := by rfl
theorem test_decode_tick : decode (.portWord 0x020000000000ABCD#64) = .ok (.tick 0xABCD#16) := by rfl
theorem test_decode_enqueue :
    decode (.portWord 0x030740021234005E#64) = .ok (.enqueue 0x07#8 0x4002#16 0x1234005E#32) := by rfl
theorem test_decode_setBathTime : decode (.portWord 0x1000000000000258#64) = .ok (.setBathTime 600#16) := by rfl
theorem test_decode_setBathTemp : decode (.portWord 0x1100000000000050#64) = .ok (.setBathTemp 80#16) := by rfl
theorem test_decode_setMaxBathTemp : decode (.portWord 0x120000000000006E#64) = .ok (.setMaxBathTemp 110#16) := by rfl
theorem test_decode_setHumStep : decode (.portWord 0x13000000000000C8#64) = .ok (.setHumStep 200#8) := by rfl
theorem test_decode_setHumPct : decode (.portWord 0x1400000000000028#64) = .ok (.setHumPct 40#8) := by rfl
theorem test_decode_setLight : decode (.portWord 0x1500000000000001#64) = .ok (.setLight true) := by rfl
theorem test_decode_setHeater : decode (.portWord 0x1600000000000000#64) = .ok (.setHeater false) := by rfl
theorem test_decode_startMarker : decode (.wireByte 0x98#8) = .ok .startMarker := by rfl
theorem test_decode_endMarker : decode (.wireByte 0x9C#8) = .ok .endMarker := by rfl
theorem test_decode_escEndMarker : decode (.escapePair 0x91#8 0x63#8) = .ok .escEndMarker := by rfl
theorem test_decode_escStartMarker : decode (.escapePair 0x91#8 0x67#8) = .ok .escStartMarker := by rfl
theorem test_decode_escEscape : decode (.escapePair 0x91#8 0x6E#8) = .ok .escEscape := by rfl
theorem test_decode_escUnknown : decode (.escapePair 0x91#8 0x91#8) = .ok (.escUnknown 0x91#8) := by rfl
theorem test_decode_msgHeaterEnable : decode (.packet 0x3400#16 0x10#32) = .ok (.msgHeaterEnable 0x10#32) := by rfl
theorem test_decode_msgBathTimerMaxTemp :
    decode (.packet 0x4002#16 0x7E000080#32) = .ok (.msgBathTimerMaxTemp 0x7E000080#32) := by rfl
theorem test_decode_msgPcbLimit : decode (.packet 0x4003#16 0x5A000#32) = .ok (.msgPcbLimit 0x5A000#32) := by rfl
theorem test_decode_msgDatetime :
    decode (.packet 0x4200#16 0x030C5322#32) = .ok (.msgDatetime 0x030C5322#32) := by rfl
theorem test_decode_msgTemperatures :
    decode (.packet 0x6000#16 0x001682A3#32) = .ok (.msgTemperatures 0x001682A3#32) := by rfl
theorem test_decode_msgHumidity : decode (.packet 0x6001#16 0x4280#32) = .ok (.msgHumidity 0x4280#32) := by rfl
theorem test_decode_msgOperationBlocked :
    decode (.packet 0x7000#16 0x1#32) = .ok (.msgOperationBlocked 0x1#32) := by rfl
theorem test_decode_msgRelayCoil : decode (.packet 0x7180#16 0x3#32) = .ok (.msgRelayCoil 0x3#32) := by rfl
theorem test_decode_msgTankLevel : decode (.packet 0x7280#16 0x800#32) = .ok (.msgTankLevel 0x800#32) := by rfl
theorem test_decode_msgDisallowedWindow :
    decode (.packet 0x9000#16 0x2#32) = .ok (.msgDisallowedWindow 0x2#32) := by rfl
theorem test_decode_msgTotalUptime :
    decode (.packet 0x9400#16 0x1234#32) = .ok (.msgTotalUptime 0x1234#32) := by rfl
theorem test_decode_msgRemainingTime :
    decode (.packet 0x9401#16 0x5A#32) = .ok (.msgRemainingTime 0x5A#32) := by rfl
theorem test_decode_msgDoorBlock :
    decode (.packet 0xB000#16 0x00060001#32) = .ok (.msgDoorBlock 0x00060001#32) := by rfl
theorem test_decode_msgSensorFault :
    decode (.packet 0xB6FF#16 0x30000000#32) = .ok (.msgSensorFault 0xFF#8 0x30000000#32) := by rfl
theorem test_decode_msgUnhandled :
    decode (.packet 0x1234#16 0xDEADBEEF#32) = .ok (.msgUnhandled 0x1234#16 0xDEADBEEF#32) := by rfl

/-- The rejections of R103: the four words of 95_test_vectors.md section 9; a byte that is no marker. -/
theorem test_decode_rejects :
    decode (.portWord 0x1700000000000000#64) = .error .badOp ∧
    decode (.portWord 0x0100000000000100#64) = .error .badOperand ∧
    decode (.portWord 0x1500000000000002#64) = .error .badOperand ∧
    decode (.portWord 0x0000000000000001#64) = .error .badOperand ∧
    decode (.wireByte 0x40#8) = .error .notAMarker ∧
    decode (.escapePair 0x40#8 0x63#8) = .error .notAnEscape := ⟨rfl, rfl, rfl, rfl, rfl, rfl⟩

/-- The table's bits, one row of each format, and a packet with its operand words of zeros. -/
theorem test_decodeTableWord :
    decodeTableWord 64 0x1600000000000001 = some (.setHeater true) ∧
    decodeTableWord 8 0x98 = some .startMarker ∧
    decodeTableWord 16 0x9167 = some .escStartMarker ∧
    decodeTableWord 16 0x7180 = some (.msgRelayCoil 0#32) ∧
    decodeTableWord 16 0xB655 = some (.msgSensorFault 0x55#8 0#32) ∧
    decodeTableWord 48 0x12345678_7180 = some (.msgRelayCoil 0x56781234#32) ∧
    decodeTableWord 64 0x1700000000000000 = none ∧
    decodeTableWord 8 0x40 = none := ⟨rfl, rfl, rfl, rfl, rfl, rfl, rfl, rfl⟩

/-! ### withFetchWord: the very next step runs the row -/

/-- A port word is presented to the port. -/
theorem test_fetch_portWord : (State.reset.withFetchWord 64 0x0100000000000055).inputs =
    [⟨0x0100000000000055#64, 0⟩] := by rfl
/-- A packet stands in an open frame whose end marker is presented (95_test_vectors.md section 1.2: CRC 549C). -/
theorem test_fetch_packet : (State.reset.withFetchWord 16 0x7180).fbuf =
    [0x98#8, 0x40#8, 0x06#8, 0x71#8, 0x80#8, 0x00#8, 0x00#8, 0x00#8, 0x00#8, 0xA0#8, 0xEE#8] := by decide +kernel

/-- An outcome is a next state of which `p` holds. -/
def nextHolds (o : Host.Outcome State Machine.Fault Refusal) (p : State → Bool) : Bool :=
  match o with
  | .next t => p t
  | _ => false

/-- The step on a presented end marker runs the packet's row. -/
theorem test_step_packet : nextHolds (step (State.reset.withFetchWord 16 0x9400)) (fun t =>
    t.events == [⟨.totalUptime, 0#32⟩] && t.caches.c9400 == ⟨0#32, true⟩ && t.asmState == .waiting) = true := by
  decide +kernel

/-- The step on a presented end marker runs the pair's row: the unescaped byte is short of a content. -/
theorem test_step_pair : nextHolds (step (State.reset.withFetchWord 16 0x9162)) (fun t =>
    t.diags == [⟨.unknownEscape, 0x62#32⟩, ⟨.frameTooShort, 2#32⟩]) = true := by decide +kernel

/-! ### The example configuration EX (95_test_vectors.md section 1.1) -/

/-- EX. -/
def exConfig : Config where
  model := .pure
  lightMask := fun _ => 1#32
  coilShift := fun _ => 1
  gapMs := fun _ => 20
  tailSig := #v[0x11#8, 0x22#8, 0x33#8, 0x44#8, 0x55#8, 0x66#8]
  cmdType := 0x07#8
  relayCmd := fun r on => match r with
    | .light => ⟨0x07#8, 0xFFF1#16, bitValue on⟩
    | .heater => ⟨0x07#8, 0xFFF2#16, bitValue on⟩
  ackCmd := fun l => match l with
    | .b00060001 => ⟨0x07#8, 0xFFF8#16, 0x00060001#32⟩
    | .b00130001 => ⟨0x07#8, 0xFFF9#16, 0x00130001#32⟩
    | .b00130003 => ⟨0x07#8, 0xFFFA#16, 0x00130003#32⟩
    | .b00140003 => ⟨0x07#8, 0xFFFB#16, 0x00140003#32⟩
  btTol := 2
  btWindowMs := 10000
  debounceMs := 1000
  queueDepth := 8
  wideUptime := fun _ => 0#32

theorem test_exConfig_valid : exConfig.Valid := by decide

/-- The power-on state while an operation of timestamp `now` runs. -/
def at_ (now : Nat) : State := { State.reset with now := now }

/-- The event records of a state as (kind, value). -/
def records (s : State) : List (EventKind × U32) := s.events.map (fun e => (e.kind, e.value))

/-- The diagnostic records of a state as (code, value). -/
def diagRecords (s : State) : List (DiagCode × U32) := s.diags.map (fun d => (d.code, d.value))

/-- Bytes received one after the other at one timestamp under EX. -/
def feed (bytes : List Byte) (s : State) : State := bytes.foldl (fun s b => rxByteBody exConfig b s) s

/-! ### CRC, escape codec, framer (sections 2 to 4) -/

theorem test_crc_empty : crc16 [] = 0xFFFF#16 := by rfl
theorem test_crc_check : crc16 [0x31#8, 0x32#8, 0x33#8, 0x34#8, 0x35#8, 0x36#8, 0x37#8, 0x38#8, 0x39#8] =
    0x3778#16 := by decide +kernel
theorem test_crc_serial : crc16Serial [0x40#8, 0x06#8, 0x34#8, 0#8, 0#8, 0#8, 0#8, 0x10#8] = 0x549C#16 := by
  decide +kernel
theorem test_escEncode : escEncode [0x91#8, 0x63#8, 0x91#8, 0x67#8] =
    [0x91#8, 0x6E#8, 0x63#8, 0x91#8, 0x6E#8, 0x67#8] := by rfl
/-- Section 3.2: the follow byte of an unknown escape is consumed; a trailing escape. -/
theorem test_unescape : (unescape [0x91#8, 0x91#8, 0x63#8, 0x91#8] State.reset).unesc = [0x91#8, 0x63#8, 0x91#8] ∧
    diagRecords (unescape [0x91#8, 0x91#8, 0x63#8, 0x91#8] State.reset) =
      [(.unknownEscape, 0x91#32), (.unknownEscape, 0x100#32)] := by decide +kernel
theorem test_encode_frame : encodeFrame ⟨0x06#8, 0x9C00#16, 0x91989C00#32⟩ =
    [0x98#8, 0x40#8, 0x06#8, 0x91#8, 0x63#8, 0x00#8, 0x91#8, 0x6E#8, 0x91#8, 0x67#8, 0x91#8, 0x63#8, 0x00#8, 0x23#8,
     0x0F#8, 0x9C#8] := by decide +kernel

/-! ### The port operations (sections 6 to 10) -/

/-- Section 9: FAULT and T_LAST_OP at a TIME_REGRESS refusal. -/
theorem test_rxByte_late : let s := accept (rxByteBody exConfig 0x40#8) { at_ 9 with tLastOp := some 10 }
    s.fault = { timeRegress := true } ∧ s.tLastOp = some 10 ∧ s.rxHist = [] := by decide +kernel
/-- Section 3.4: noise is discarded, but stands in RXHIST. -/
theorem test_rxByte_noise : let s := feed [0x55#8, 0x9C#8, 0x12#8] (at_ 0)
    s.asmState = .waiting ∧ s.fbuf = [] ∧ s.rxHist = [0x55#8, 0x9C#8, 0x12#8] ∧ s.diags = [] := by decide +kernel
/-- Section 6: a TICK 20 ms after the tail sends the front frame and disarms. -/
theorem test_tick_sends : let s := (tickBody exConfig 0#16
      { at_ 251 with txq := [[0x98#8], [0x9C#8]], tailArmed := true, tLastRx := some 231 })
    s.txOut = [[0x98#8]] ∧ s.txq = [[0x9C#8]] ∧ s.tailArmed = false := by decide +kernel
/-- Section 7.3: minute 3 is published after minute 1; 2 never is. -/
theorem test_tick_minutes : records (tickBody exConfig 0#16
      { at_ 182000 with sessionActive := true, sessionStartT := 2000, sessionLastPubMin := some 1 }) =
    [(.sessionUptime, 3#32)] := by decide +kernel
theorem test_enqueue : (enqueueBody exConfig ⟨0x07#8, 0x4002#16, 0x5E#32⟩ (at_ 0)).txq =
    [[0x98#8, 0x40#8, 0x07#8, 0x40#8, 0x02#8, 0#8, 0#8, 0#8, 0x5E#8, 0xED#8, 0x43#8, 0x9C#8]] := by decide +kernel
/-- Section 8: 90 minutes after 0x4002 data 7E000080. -/
theorem test_setBathTime : let s := setBathTimeBody exConfig 90 { at_ 20 with caches := { c4002 := ⟨0x7E000080#32, true⟩ } }
    s.txq = [[0x98#8, 0x40#8, 0x07#8, 0x40#8, 0x02#8, 0x7E#8, 0#8, 0#8, 0x5E#8, 0x03#8, 0x6B#8, 0x9C#8]] ∧
    records s = [(.bathTimeSetting, 0x5A#32)] ∧ s.btPending = some 90 ∧ s.btSetT = 20 := by decide +kernel
/-- Section 8: 300 °C is clamped to 227. -/
theorem test_setBathTemp : (setBathTempBody exConfig 300 (at_ 20)).txq =
    [[0x98#8, 0x40#8, 0x07#8, 0x60#8, 0#8, 0#8, 0x3F#8, 0xD8#8, 0#8, 0x99#8, 0xDD#8, 0x9C#8]] := by decide +kernel
theorem test_setMaxBathTemp :
    (setMaxBathTempBody exConfig 100 { at_ 20 with caches := { c4002 := ⟨0x7E000080#32, true⟩ } }).txq =
    [[0x98#8, 0x40#8, 0x07#8, 0x40#8, 0x02#8, 0x70#8, 0x80#8, 0#8, 0x80#8, 0x5F#8, 0x6B#8, 0x9C#8]] := by
  decide +kernel
theorem test_setHumStep : (setHumStepBody exConfig 0 { at_ 20 with caches := { c6001 := ⟨0xC000#32, true⟩ } }).txq =
    [[0x98#8, 0x40#8, 0x07#8, 0x60#8, 0x01#8, 0#8, 0#8, 0xC2#8, 0x80#8, 0xB6#8, 0xA5#8, 0x9C#8]] := by
  decide +kernel
theorem test_setHumPct_63 : (setHumPct exConfig 63 (at_ 20)).txq =
    [[0x98#8, 0x40#8, 0x07#8, 0x60#8, 0x01#8, 0#8, 0#8, 0x1F#8, 0x80#8, 0xE6#8, 0x9A#8, 0x9C#8]] := by decide +kernel
theorem test_setHumPct_64 : setHumPct exConfig 64 (at_ 20) = { at_ 20 with fault := { pctRange := true } } := by
  decide +kernel
/-- Section 7.2: 500 ms after the last light command a set is ignored; the heater has its own debounce. -/
theorem test_setLight_debounced : relaySet exConfig .light false { at_ 500 with lastCmdLight := some 0 } =
    { at_ 500 with lastCmdLight := some 0 } := by decide +kernel
theorem test_setHeater : let s := relaySet exConfig .heater true { at_ 999 with lastCmdLight := some 0 }
    records s = [(.heaterStatus, 1#32)] ∧ s.lastCmdHeater = some 999 ∧
    s.txq = [[0x98#8, 0x40#8, 0x07#8, 0xFF#8, 0xF2#8, 0#8, 0#8, 0#8, 0x01#8, 0xD9#8, 0x52#8, 0x9C#8]] := by
  decide +kernel
/-- Section 10: RESET keeps FAULT. -/
theorem test_reset : resetBody (State.noteOp
      { at_ 8 with fault := { pctRange := true }, fbuf := [0x98#8], asmState := .inFrame, ready := true }) =
    { at_ 8 with fault := { pctRange := true }, tLastOp := some 8 } := by decide +kernel

/-! ### Frames (sections 3 and 4) -/

/-- A 6-byte frame is dropped silently; a 7-byte one is decoded and found too short. -/
theorem test_endMarker_lengths :
    diagRecords (feed [0x98#8, 1#8, 2#8, 3#8, 4#8, 0x9C#8] (at_ 1)) = [] ∧
    diagRecords (feed [0x98#8, 1#8, 2#8, 3#8, 4#8, 5#8, 0x9C#8] (at_ 2)) = [(.frameTooShort, 2#32)] := by
  decide +kernel
/-- A start marker restarts an open frame. -/
theorem test_startMarker_restarts : records (feed [0x98#8, 0x40#8, 0x06#8, 0x98#8, 0x40#8, 0x06#8, 0x94#8, 0#8, 0#8,
    0#8, 0x12#8, 0x34#8, 0x60#8, 0x43#8, 0x9C#8] (at_ 3)) = [(.totalUptime, 0x1234#32)] := by decide +kernel
/-- Scenario A as given is panel traffic. -/
theorem test_frame_panel : let s := (feed [0x98#8, 0x40#8, 0x07#8, 0x34#8, 0#8, 0#8, 0#8, 0#8, 0x10#8, 0x65#8, 0x36#8,
    0x9C#8] (at_ 0))
    diagRecords s = [(.panelTraffic, 0x00073400#32)] ∧ s.events = [] := by decide +kernel
/-- Scenario C. -/
theorem test_frame_mismatch : diagRecords (feed [0x98#8, 0x40#8, 0x06#8, 0x40#8, 0x02#8, 0#8, 0#8, 0#8, 0x80#8, 0x1A#8,
    0x84#8, 0x9C#8] (at_ 0)) = [(.crcMismatch, 0x1A841A83#32)] := by decide +kernel
/-- An unknown escape, then the mismatch it leads to. -/
theorem test_frame_unknown_escape : diagRecords (feed [0x98#8, 0x40#8, 0x06#8, 0x34#8, 0#8, 0#8, 0#8, 0#8, 0x10#8,
    0x54#8, 0x91#8, 0x62#8, 0x9C#8] (at_ 0)) = [(.unknownEscape, 0x62#32), (.crcMismatch, 0x5491549C#32)] := by
  decide +kernel
/-- The escaped CRC of Scenario A in the heater's direction. -/
theorem test_frame_escaped : records (feed [0x98#8, 0x40#8, 0x06#8, 0x34#8, 0#8, 0#8, 0#8, 0#8, 0x10#8, 0x54#8, 0x91#8,
    0x63#8, 0x9C#8] (at_ 0)) = [(.heaterStatus, 1#32), (.heaterState, 0x01#32)] := by decide +kernel
theorem test_escapes_put_out :
    (unescapePair 0x63#8 State.reset).unesc = [0x9C#8] ∧ (unescapePair 0x67#8 State.reset).unesc = [0x98#8] ∧
    (unescapePair 0x6E#8 State.reset).unesc = [0x91#8] ∧ (unescapePair 0x00#8 State.reset).unesc = [0x91#8] := by
  decide +kernel

/-! ### Messages (section 5) -/

/-- The records of one packet at power-on under EX. -/
def packetRecords (code : U16) (d : U32) : List (EventKind × U32) := records (dispatch exConfig code d (at_ 0))

theorem test_msg_3400 : packetRecords 0x3400#16 0xFFFFFFEF#32 = [(.heaterStatus, 0#32), (.heaterState, 0#32)] := by
  decide +kernel
theorem test_msg_4002 : packetRecords 0x4002#16 0x7E000080#32 =
    [(.bathTimeSetting, 0x78#32), (.maxBathTemperature, 0x7E0#32)] := by decide +kernel
/-- Section 7.1: with the heater on, 26 minutes away and inside the window, the echo is suppressed. -/
theorem test_msg_4002_suppressed : records (dispatch exConfig 0x4002#16 0x44#32 { at_ 500 with
      btPending := some 90, btSetT := 20, lastPubBt := some 90, heatingStatus := true }) =
    [(.maxBathTemperature, 0#32)] := by decide +kernel
theorem test_msg_4003 : packetRecords 0x4003#16 0x0005A000#32 = [(.overheatingPcbLimit, 180#32)] := by decide +kernel
theorem test_msg_4200 : packetRecords 0x4200#16 0x030C5322#32 = [(.datetime, 0x030C5322#32)] ∧
    dateTimeOf 0x030C5322#32 = ⟨34, 12, 5, 6, 2024⟩ := by decide +kernel
theorem test_msg_6000 : packetRecords 0x6000#16 0x001682A3#32 =
    [(.temperature, 675#32), (.temperatureSetting, 720#32)] := by decide +kernel
theorem test_msg_6001_step : packetRecords 0x6001#16 0x00000FF0#32 =
    [(.humidityStep, 10#32), (.humidityPriority, 0#32)] := by decide +kernel
theorem test_msg_6001_percent : packetRecords 0x6001#16 0x10001D2A#32 =
    [(.humidityPercent, 0x3A#32), (.humidityCurrent, 0x2A#32), (.humidityPriority, 0#32)] := by decide +kernel
theorem test_msg_7000 : packetRecords 0x7000#16 0#32 = [(.heaterState, 0x12#32)] ∧
    records (dispatch exConfig 0x7000#16 0#32 { at_ 0 with heatingStatus := true }) = [] := by decide +kernel
theorem test_msg_7180 : packetRecords 0x7180#16 0x3#32 =
    [(.lightStatus, 1#32), (.heaterState, 0x02#32), (.sessionUptime, 0#32)] := by decide +kernel
/-- Scenario E: the session stops at 128 s. -/
theorem test_msg_7180_stop : (dispatch exConfig 0x7180#16 0#32
      { at_ 130000 with sessionActive := true, sessionStartT := 2000 }).sessionElapsedS = 128 := by decide +kernel
theorem test_msg_7280 : packetRecords 0x7280#16 0x800#32 = [(.waterTankLevel, 50#32)] ∧
    packetRecords 0x7280#16 0x1800#32 = [(.waterTankLevel, 0xFF#32)] := by decide +kernel
theorem test_msg_9000 : packetRecords 0x9000#16 0x12345678#32 = [(.disallowedWindow, 0x12345678#32)] := by
  decide +kernel
theorem test_msg_9400 : packetRecords 0x9400#16 0x1234#32 = [(.totalUptime, 0x1234#32)] := by decide +kernel
theorem test_msg_9401 : packetRecords 0x9401#16 0x1234FFFD#32 = [(.remainingTime, 0#32)] ∧
    packetRecords 0x9401#16 0xFFFB#32 = [(.remainingTime, 0xFFFB#32)] := by decide +kernel
theorem test_msg_B000 : let s := dispatch exConfig 0xB000#16 0x00140003#32 (at_ 0)
    records s = [(.readyStatus, 0#32), (.heaterState, 0x23#32)] ∧
    s.txq = [[0x98#8, 0x40#8, 0x07#8, 0xFF#8, 0xFB#8, 0#8, 0x14#8, 0#8, 0x03#8, 0x0C#8, 0xC7#8, 0x9C#8]] := by
  decide +kernel
theorem test_msg_B6 : packetRecords 0xB601#16 0x30000000#32 = [(.heaterState, 0x10#32)] ∧
    packetRecords 0xB6FF#16 0x10000000#32 = [(.heaterState, 0x11#32)] := by decide +kernel
theorem test_msg_unhandled : diagRecords (dispatch exConfig 0x1234#16 0xDEADBEEF#32 (at_ 0)) =
    [(.unhandledCode, 0x1234#32)] := by decide +kernel
/-- Section 5.1. -/
theorem test_bucket : [64#12, 67#12, 127#12, 128#12, 191#12, 192#12, 607#12, 4095#12].map (fun r => (btDecode r).val) =
    [60, 63, 123, 120, 183, 180, 575, 575] := by decide +kernel
/-- The text form (R105). -/
theorem test_lineText : lineText 10 (.enqueue 0x07#8 0x4002#16 0x78#32) = "@10 ENQ 07 4002 00000078" := by
  decide +kernel

/-! ### Witnesses: a state and operands that meet the hypotheses of each statement, clause by clause -/

/-- A state in which the operation of timestamp `now` is the last accepted one's equal: the boundary of R392. -/
def onTime (now : Nat) : State := { at_ now with tLastOp := some now }

/-- A state whose queue holds P_QUEUE_DEPTH frames. -/
def fullQueue (now : Nat) : State := { onTime now with txq := List.replicate Config.chip.queueDepth [] }

theorem onTime_onTime (now : Nat) : (onTime now).OnTime := by
  simp [onTime, at_, State.OnTime, State.timeRegresses]

theorem onTime_hasRoom (now : Nat) : (onTime now).HasRoom Config.chip := by
  show 0 ≠ Config.openQueueDepthLessOne + 1
  omega

theorem fullQueue_onTime (now : Nat) : (fullQueue now).OnTime := onTime_onTime now

theorem fullQueue_noRoom (now : Nat) : ¬ (fullQueue now).HasRoom Config.chip := by
  simp [fullQueue, State.HasRoom]

/-- One presented operation. -/
def presented (w : PortWord) (now : Nat) : State := { onTime now with inputs := [⟨w, now⟩] }

theorem witness_EncodedInstructionDecodesToItself :
    (Instr.enqueue 0xFF#8 0xFFFF#16 0xFFFFFFFF#32).wf = true ∧ (Instr.escUnknown 0xFF#8).wf = true ∧
    (Instr.msgUnhandled 0xFFFF#16 0#32).wf = true ∧ Instr.startMarker.wf = true := by decide

theorem witness_DecodedInstructionEncodesBack :
    decode (.portWord 0x15FFFFFFFFFFFFFF#64) = .error .badOperand ∧
    decode (.portWord 0x1500000000000000#64) = .ok (.setLight false) ∧
    decode (.wireByte 0x9C#8) = .ok .endMarker ∧ decode (.escapePair 0x91#8 0xFF#8) = .ok (.escUnknown 0xFF#8) ∧
    decode (.packet 0xB600#16 0#32) = .ok (.msgSensorFault 0x00#8 0#32) := ⟨rfl, rfl, rfl, rfl, rfl⟩

/-- Undefined operation codes beside the defined ones. -/
theorem witness_ReservedWordsAreRefused_badOp :
    (presented 0x0400000000000000#64 3).inputs = [⟨0x0400000000000000#64, 3⟩] ∧
    (∀ op ∈ [0x04#8, 0x0F#8, 0x17#8, 0xFF#8], op ∉ definedOps) ∧ opOf 0x0400000000000000#64 = 0x04#8 ∧
    opOf 0x0F00000000000000#64 = 0x0F#8 ∧ opOf 0x17FFFFFFFFFFFFFF#64 = 0x17#8 ∧
    opOf 0xFF00000000000000#64 = 0xFF#8 := by
  refine ⟨rfl, ?_, rfl, rfl, rfl, rfl⟩
  simp [definedOps]

/-- Each operation's lowest reserved bit, alone, and the highest. -/
theorem witness_ReservedWordsAreRefused_badOperand :
    (∀ p ∈ reservedBits, 0x0080000000000000#64 &&& p.2 ≠ 0#64) ∧
    (0x01#8, 0x00FFFFFFFFFFFF00#64) ∈ reservedBits ∧ opOf 0x0100000000000100#64 = 0x01#8 ∧
    0x0100000000000100#64 &&& 0x00FFFFFFFFFFFF00#64 ≠ 0#64 ∧ (0x15#8, 0x00FFFFFFFFFFFFFE#64) ∈ reservedBits ∧
    opOf 0x1500000000000002#64 = 0x15#8 ∧ 0x1500000000000002#64 &&& 0x00FFFFFFFFFFFFFE#64 ≠ 0#64 := by
  simp [reservedBits, opOf]

theorem witness_StepRunsTheDecodedOperation :
    (presented 0x0200000000000000#64 3).inputs = [⟨0x0200000000000000#64, 3⟩] ∧
    decode (.portWord 0x0200000000000000#64) = .ok (.tick 0#16) ∧ State.reset.inputs = [] := ⟨rfl, rfl, rfl⟩

theorem witness_RxByteRunsTheMarkerRows : (onTime 5).OnTime ∧ (onTime 0).OnTime ∧ State.reset.OnTime :=
  ⟨onTime_onTime 5, onTime_onTime 0, rfl⟩

/-- An open frame with 0x9400 and data 00001234, without and with content bytes after the eighth; types on each side of
the panel types. -/
theorem witness_ClosingByteRunsTheMessage : ∀ extra ∈ [[], [0x91#8]], ∃ (s : State) (content : List Byte),
    s.OnTime ∧ s.asmState = .inFrame ∧ content = contentBytes 0x40#8 0x06#8 0x9400#16 0x1234#32 ++ extra ∧
    s.fbuf = 0x98#8 :: escEncode (content ++ crcField (crc16 content)) ∧
    ∀ type ∈ [0x06#8, 0x08#8, 0x0A#8], type ≠ 0x07#8 ∧ type ≠ 0x09#8 := fun extra _ =>
  ⟨{ onTime 5 with
      asmState := .inFrame
      fbuf := 0x98#8 :: escEncode ((contentBytes 0x40#8 0x06#8 0x9400#16 0x1234#32 ++ extra) ++
        crcField (crc16 (contentBytes 0x40#8 0x06#8 0x9400#16 0x1234#32 ++ extra))) },
    _, onTime_onTime 5, rfl, rfl, rfl, by decide⟩

theorem witness_UnescapingRunsTheEscapeRows :
    decode (.escapePair 0x91#8 0x63#8) = .ok .escEndMarker ∧
    exec .escEndMarker State.reset = .next { State.reset with unesc := [0x9C#8] } ∧ (0x90#8 : Byte) ≠ 0x91#8 ∧
    (0x92#8 : Byte) ≠ 0x91#8 := ⟨rfl, rfl, by decide, by decide⟩

/-- One millisecond early; then equal, and with no earlier operation. -/
theorem witness_TimeRegressIsRefused :
    decode (.portWord 0x0100000000000040#64) = .ok (.rxByte 0x40#8) ∧
    ({ at_ 9 with tLastOp := some 10 } : State).tLastOp = some 10 ∧ (at_ 9).now < 10 ∧
    (∀ t, (onTime 10).tLastOp = some t → t ≤ (onTime 10).now) ∧
    (∀ t, (at_ 10).tLastOp = some t → t ≤ (at_ 10).now) := by
  refine ⟨rfl, rfl, by decide, fun t h => ?_, fun t h => (by cases h)⟩
  cases h
  exact le_refl _

theorem witness_RxByteNotesThenAssembles :
    (onTime 5).OnTime ∧ ∃ t, t = assemble Config.chip 0x55#8 (afterReceipt 0x55#8 (onTime 5)) :=
  ⟨onTime_onTime 5, _, rfl⟩

/-- Five buffered bytes close to six, which is dropped; six close to seven, which is decoded. -/
theorem witness_EndMarkerClosesTheFrame :
    (at_ 0).asmState = .waiting ∧ [0x98#8, 1#8, 2#8, 3#8, 4#8].length + 1 ≤ 6 ∧
    6 < [0x98#8, 1#8, 2#8, 3#8, 4#8, 5#8].length + 1 ∧
    ({ at_ 0 with asmState := .inFrame, fbuf := [0x98#8, 1#8, 2#8, 3#8, 4#8, 5#8] } : State).asmState = .inFrame := by
  decide

/-- 62 and 63 buffered bytes; while WAITING an end marker. -/
theorem witness_PlainByteIsDroppedOrAppended :
    (onTime 5).OnTime ∧ (0x9C#8 : Byte) ≠ 0x98#8 ∧ (onTime 5).asmState = .waiting ∧
    (0x97#8 : Byte) ≠ 0x98#8 ∧ (0x97#8 : Byte) ≠ 0x9C#8 ∧
    (List.replicate 62 0#8).length ≠ 63 ∧ (List.replicate 63 0#8).length = 63 :=
  ⟨onTime_onTime 5, by decide, rfl, by decide, by decide, by decide, by decide⟩

theorem witness_EscapePairsPutOutTheirByte : ∀ f ∈ [0x62#8, 0x64#8, 0x66#8, 0x68#8, 0x6D#8, 0x6F#8],
    f ≠ 0x63#8 ∧ f ≠ 0x67#8 ∧ f ≠ 0x6E#8 := by decide

/-- An armed block whose gap has just elapsed at its timestamp (boundary), and one whose gap lacks 1 ms. -/
theorem witness_TickSendsOrHolds : ∃ s s' : State, ∃ u f q,
    s.OnTime ∧ s.tLastRx = some u ∧ s.txq = f :: q ∧ s.tailArmed = true ∧
    Config.chip.gapMs Config.chip.model + u = s.now ∧
    s'.OnTime ∧ s'.txq ≠ [] ∧ s'.tailArmed = true ∧ s'.tLastRx = some 1 ∧
    s'.now + 1 = Config.chip.gapMs Config.chip.model + 1 := by
  refine ⟨{ onTime (Config.chip.gapMs Config.chip.model + 7) with tLastRx := some 7, txq := [[0x98#8]], tailArmed := true },
    { onTime (Config.chip.gapMs Config.chip.model) with tLastRx := some 1, txq := [[0x98#8]], tailArmed := true },
    7, [0x98#8], [], onTime_onTime _, rfl, rfl, rfl, rfl, onTime_onTime _, by simp, rfl, rfl, rfl⟩

/-- TICKs of a session at 59 999 ms and 60 000 ms with minute 0 published, and one without a session. -/
theorem witness_TickTimesTheSession : ∃ s : State, s.OnTime ∧ s.sessionActive = true ∧
    s.sessionLastPubMin = some 0 ∧ (59999 - s.sessionStartT) / 60000 = 0 ∧ (60000 - s.sessionStartT) / 60000 = 1 ∧
    (∃ t, exec (.tick 0#16) s = .next t) ∧ (onTime 3).sessionActive = false ∧
    ∃ t, exec (.tick 0#16) (onTime 3) = .next t :=
  ⟨{ onTime 60000 with sessionActive := true, sessionLastPubMin := some 0 }, onTime_onTime _, rfl, rfl, by decide,
    by decide, ⟨_, rfl⟩, rfl, _, rfl⟩

/-- A session that published minute 0 and whose last accepted operation was at 59 999 ms: its TICK at 60 000 ms. -/
theorem witness_TickPublishesEachMinuteOnce : ∃ s t : State, exec (.tick 0#16) s = .next t ∧ t.events ≠ s.events ∧
    s.SessionOk :=
  ⟨{ at_ 60000 with sessionActive := true, sessionLastPubMin := some 0, tLastOp := some 59999 }, _, rfl,
    by decide +kernel, fun _ => ⟨0, 59999, rfl, rfl, Nat.zero_le _, Nat.zero_le _⟩⟩

theorem witness_EnqueueAppendsTheFrame :
    (onTime 5).OnTime ∧ (onTime 5).HasRoom Config.chip ∧ (fullQueue 5).OnTime ∧ ¬ (fullQueue 5).HasRoom Config.chip :=
  ⟨onTime_onTime 5, onTime_hasRoom 5, fullQueue_onTime 5, fullQueue_noRoom 5⟩

/-- A full queue, with the relay truth learned and not; percents at the boundary of PCT_RANGE; a literal payload. -/
theorem witness_FullQueueFaults :
    (fullQueue 5).OnTime ∧ ¬ (fullQueue 5).HasRoom Config.chip ∧ (0x3F#8).toNat ≤ 63 ∧
    (fullQueue 5).truthLearned = false ∧ (∀ t, (fullQueue 5).lastCmdLight = some t → t + Config.chip.debounceMs ≤ 5) ∧
    (∀ t, (fullQueue 5).lastCmdHeater = some t → t + Config.chip.debounceMs ≤ 5) ∧
    ({ fullQueue 5 with truthLearned := true } : State).OnTime ∧
    ¬ ({ fullQueue 5 with truthLearned := true } : State).HasRoom Config.chip ∧
    (0x00060001#32, 0x20#32) ∈ [(0x00060001#32, 0x20#32), (0x00130001#32, 0x21#32), (0x00130003#32, 0x22#32),
      (0x00140003#32, 0x23#32)] :=
  ⟨fullQueue_onTime 5, fullQueue_noRoom 5, by decide, rfl, fun t h => (by cases h), fun t h => (by cases h), fullQueue_onTime 5, fullQueue_noRoom 5, by decide⟩

/-- 575 and 576 minutes. -/
theorem witness_SetBathTimePushesAndPends :
    (onTime 5).OnTime ∧ (onTime 5).HasRoom Config.chip ∧ (575 : Minutes).val = min (575#16).toNat 575 ∧
    (575 : Minutes).val = min (576#16).toNat 575 :=
  ⟨onTime_onTime 5, onTime_hasRoom 5, by decide, by decide⟩

theorem witness_SetTemperaturesPushTheMergedPayload : (onTime 5).OnTime ∧ (onTime 5).HasRoom Config.chip :=
  ⟨onTime_onTime 5, onTime_hasRoom 5⟩

/-- 63 and 64 percent. -/
theorem witness_SetHumidityPushesOrRefuses :
    (onTime 5).OnTime ∧ (onTime 5).HasRoom Config.chip ∧ (63#8).toNat ≤ 63 ∧ 63 < (64#8).toNat :=
  ⟨onTime_onTime 5, onTime_hasRoom 5, by decide, by decide⟩

theorem witness_LearnedRelaySetIsIdempotent : ∃ s : State, s.OnTime ∧ s.HasRoom Config.chip ∧
    s.truthLearned = true ∧ true = s.heaterTruth ∧ false ≠ s.heaterTruth ∧ false = s.lightTruth ∧
    true ≠ s.lightTruth :=
  ⟨{ onTime 5 with truthLearned := true, heaterTruth := true }, onTime_onTime 5, onTime_hasRoom 5, rfl, rfl, by decide,
    rfl, by decide⟩

/-- A set exactly P_DEBOUNCE_MS after the relay's last command, one earlier, and one with no command yet. -/
theorem witness_UnlearnedRelaySetIsOptimisticAndDebounced : ∃ s s' : State,
    s.OnTime ∧ s.HasRoom Config.chip ∧ s.truthLearned = false ∧
    (∀ t, s.lastCmdLight = some t → t + Config.chip.debounceMs = s.now) ∧
    (∀ t, s.lastCmdHeater = some t → t + Config.chip.debounceMs ≤ s.now) ∧
    s'.OnTime ∧ s'.truthLearned = false ∧ s'.lastCmdLight = some 1 ∧ s'.lastCmdHeater = some 1 ∧
    s'.now + 1 = 1 + Config.chip.debounceMs := by
  refine ⟨{ onTime (Config.chip.debounceMs + 7) with lastCmdLight := some 7 },
    { onTime Config.chip.debounceMs with lastCmdLight := some 1, lastCmdHeater := some 1 },
    onTime_onTime (Config.chip.debounceMs + 7), onTime_hasRoom (Config.chip.debounceMs + 7), rfl, fun t h => ?_,
    fun t h => (by cases h), onTime_onTime Config.chip.debounceMs, rfl, rfl, rfl, ?_⟩
  · cases h
    show 7 + Config.chip.debounceMs = Config.chip.debounceMs + 7
    omega
  · show Config.chip.debounceMs + 1 = 1 + Config.chip.debounceMs
    omega

/-- No target pending; the heater off; the window just passed with the heater on; a value equal to the target. -/
theorem witness_BathTimerIsFiltered : ∃ s s' s'' : State, ∃ m : Minutes,
    m = btDecode ((0x68#32).extractLsb' 0 12) ∧ (onTime 5).btPending = none ∧
    s.btPending = some 90 ∧ s.heatingStatus = false ∧
    s'.btPending = some 90 ∧ s'.btSetT + Config.chip.btWindowMs = s'.now ∧ s'.heatingStatus = true ∧
    s''.btPending = some m ∧ |(m.val : Int) - (m.val : Int)| ≤ (Config.chip.btTol : Int) ∧ s''.heatingStatus = true := by
  refine ⟨{ onTime 5 with btPending := some 90 },
    { onTime (7 + Config.chip.btWindowMs) with btPending := some 90, btSetT := 7, heatingStatus := true },
    { onTime 5 with btPending := some 100, heatingStatus := true }, 100, by decide +kernel, rfl, rfl, rfl, rfl, rfl, rfl,
    rfl, ?_, rfl⟩
  simp

/-- Inside the window and beyond the tolerance: wherever P_BT_TOL, which is open, is below 575. -/
theorem witness_BathTimerIsFiltered_window (h : Config.chip.btTol < 575) : ∃ (s : State) (p : Minutes),
    s.btPending = some p ∧ s.now < s.btSetT + Config.chip.btWindowMs ∧
    (Config.chip.btTol : Int) < |(((0 : Minutes).val : Int)) - (p.val : Int)| := by
  refine ⟨{ onTime 0 with btPending := some 575, btSetT := 1 }, 575, rfl, ?_, ?_⟩
  · show 0 < 1 + Config.chip.btWindowMs
    omega
  · show (Config.chip.btTol : Int) < |(0 : Int) - 575|
    simp
    omega

/-- Step fields 0, 48 and 255, and the mode bit set. -/
theorem witness_HumidityDecodesByMode :
    (0x00000000#32).getLsbD 28 = false ∧
    ((0 : Nat) : Int) = min (max ((((0x00000000#32).extractLsb' 4 8).toNat - 40 : Int) / 8) 0) 10 ∧
    ((1 : Nat) : Int) = min (max ((((0x00000300#32).extractLsb' 4 8).toNat - 40 : Int) / 8) 0) 10 ∧
    ((10 : Nat) : Int) = min (max ((((0x00000FF0#32).extractLsb' 4 8).toNat - 40 : Int) / 8) 0) 10 ∧
    (0x10000000#32).getLsbD 28 = true := by decide +kernel

theorem witness_RelayCoilLearnsTheTruth : ∃ light h : Bool,
    light = decide (0xFFFFFFFF#32 &&& Config.chip.lightMask Config.chip.model ≠ 0#32) ∧
    h = decide ((0xFFFFFFFF#32 >>> (Config.chip.coilShift Config.chip.model).val) &&& 0x7#32 ≠ 0#32) :=
  ⟨_, _, rfl, rfl⟩

/-- A payload beside a literal; a literal, with room and without. -/
theorem witness_DoorBlockAcknowledges :
    ((0x00060000#32 : U32) ≠ 0x00060001#32 ∧ (0x00060000#32 : U32) ≠ 0x00130001#32 ∧
      (0x00060000#32 : U32) ≠ 0x00130003#32 ∧ (0x00060000#32 : U32) ≠ 0x00140003#32) ∧
    (0x00140003#32, AckLiteral.b00140003, 0x23#32) ∈ [(0x00060001#32, AckLiteral.b00060001, 0x20#32),
        (0x00130001#32, .b00130001, 0x21#32), (0x00130003#32, .b00130003, 0x22#32),
        (0x00140003#32, .b00140003, 0x23#32)] ∧
    (onTime 5).HasRoom Config.chip ∧ ¬ (fullQueue 5).HasRoom Config.chip :=
  ⟨by decide, by decide, onTime_hasRoom 5, fullQueue_noRoom 5⟩

/-- The wrong byte first and last in the content; a wrong CRC. -/
theorem witness_CorruptedPacketFailsTheCrc :
    (0x00#8 : Byte) ≠ 0x01#8 ∧ ([] : List Byte).length + (List.replicate 7 0x00#8).length = 7 ∧
    (List.replicate 7 0x00#8).length + ([] : List Byte).length = 7 ∧ (List.replicate 8 0x00#8).length = 8 ∧
    0x0000#16 ≠ crc16 (List.replicate 8 0x00#8) := by decide +kernel

/-- The shortest and the longest body the assembler passes on. -/
theorem witness_AssemblerSelfSynchronises : ∀ n ∈ [5, 62],
    (∀ b ∈ List.replicate n 0x91#8, b ≠ 0x98#8 ∧ b ≠ 0x9C#8) ∧ 5 ≤ (List.replicate n 0x91#8).length ∧
    (List.replicate n 0x91#8).length + 2 ≤ 64 := by decide +kernel

/-- The unescaped bytes of a closed frame. -/
def unescaped (f : List Byte) : List Byte := (unescape (frameBody f) State.reset).unesc

/-- A frame of each discarded kind: 1 and 2 unescaped bytes, 9 (a content of 7); a wrong CRC; types 07 and 09 with the right
one. -/
theorem witness_DiscardedFrameChangesNoRegister :
    (unescaped [0x98#8, 0x40#8, 0x9C#8]).length < 2 ∧ 2 ≤ (unescaped [0x98#8, 0x40#8, 0x06#8, 0x9C#8]).length ∧
    ((unescaped [0x98#8, 0x40#8, 0x06#8, 0x94#8, 0#8, 0#8, 0#8, 0x12#8, 0xA4#8, 0x16#8, 0x9C#8]).take 7).length < 8 ∧
    8 ≤ [0x40#8, 0x06#8, 0x40#8, 0x02#8, 0#8, 0#8, 0#8, 0x80#8].length ∧
    crc16 [0x40#8, 0x06#8, 0x40#8, 0x02#8, 0#8, 0#8, 0#8, 0x80#8] ≠ be16 0x1A#8 0x84#8 ∧
    ∀ type ∈ [0x07#8, 0x09#8], (unescaped (frameOf 0x40#8 type 0x3400#16 0x10#32)).take 8 =
        contentBytes 0x40#8 type 0x3400#16 0x10#32 ∧
      crc16 (contentBytes 0x40#8 type 0x3400#16 0x10#32) =
        be16 (byteAt (unescaped (frameOf 0x40#8 type 0x3400#16 0x10#32)) 8)
          (byteAt (unescaped (frameOf 0x40#8 type 0x3400#16 0x10#32)) 9) := by decide +kernel

/-- The raw values and the minutes at the rule's boundary. -/
theorem witness_BucketRuleAsStated : (63#12).toNat ≤ 63 ∧ 63 < (64#12).toNat ∧ (63 : Minutes).val ≤ 63 ∧
    63 < (64 : Minutes).val := by decide

/-- The largest values of each encode rule. -/
theorem witness_EncodedPayloadsDecodeToTheValueSet : 227 ≤ 227 ∧ 10 ≤ 10 ∧ 63 ≤ 63 := by decide

/-- From power-on, with an RX_BYTE of a start marker presented, every invariant's hypotheses hold, and the step
completes. -/
theorem witness_invariants :
    State.AssemblerOk Config.chip { State.reset with inputs := [⟨0x0100000000000098#64, 0⟩] } ∧
    State.QueueOk Config.chip { State.reset with inputs := [⟨0x0100000000000098#64, 0⟩] } ∧
    State.TailOk Config.chip { State.reset with inputs := [⟨0x0100000000000098#64, 0⟩] } ∧
    State.StampsOk { State.reset with inputs := [⟨0x0100000000000098#64, 0⟩] } ∧
    State.CachesOk { State.reset with inputs := [⟨0x0100000000000098#64, 0⟩] } ∧
    ∃ t, step { State.reset with inputs := [⟨0x0100000000000098#64, 0⟩] } = .next t := by
  refine ⟨⟨fun _ => rfl, fun h => (by cases h)⟩, ⟨Nat.zero_le _, fun f h => (by cases h)⟩,
    ⟨Nat.zero_le _, fun h => (by cases h)⟩, ⟨rfl, rfl, rfl, fun h => (by cases h), fun h => (by cases h)⟩, fun f _ => ?_, _, rfl⟩
  cases f <;> rfl

/-- The flags' hypotheses at power-on. -/
theorem witness_StepKeepsTheFlagsInvariant : State.reset.FlagsOk Config.chip := by
  refine ⟨rfl, rfl, ?_, ?_, ?_, ?_, fun h => (by cases h), rfl⟩ <;>
    simp [State.reset, lightFlag, coilFlag, coilField]

/-- An open frame with 63 bytes meets the assembler's invariant. -/
theorem witness_StepKeepsTheAssemblerInvariant : State.AssemblerOk Config.chip
    { State.reset with asmState := .inFrame, fbuf := 0x98#8 :: List.replicate 62 0x91#8 } := by
  refine ⟨fun h => (by cases h), fun _ => ⟨rfl, ?_, ?_⟩⟩
  · show ∀ b ∈ List.replicate 62 0x91#8, b ≠ startByte ∧ b ≠ endByte
    decide +kernel
  · show (0x98#8 :: List.replicate 62 0x91#8).length ≤ 63
    decide

/-- A state with a timestamp stored, and one after which a step gives a T_LAST_OP. -/
theorem witness_StepKeepsTheStampsInvariant :
    State.StampsOk { onTime 5 with btPending := some 90, btSetT := 5, tLastRx := some 4 } ∧
    (presented 0x0200000000000000#64 5).tLastOp = some 5 := by decide +kernel

theorem witness_FaultIsSticky : ∃ s t u : State, step s = .next t ∧ exec .reset s = .next u ∧
    s.fault.badOp = true :=
  ⟨{ presented 0x0200000000000000#64 3 with fault := { badOp := true } }, _, _, rfl, rfl, rfl⟩

theorem witness_OutputHistoriesOnlyGrow : ∃ s t : State, step s = .next t := ⟨presented 0x0200000000000000#64 3, _, rfl⟩

/-- An armed block with a frame waiting, a TICK presented when its gap has just elapsed: the step transmits. -/
theorem witness_TransmissionIsCollisionFree_sends : ∃ s t : State, s.TailOk Config.chip ∧ step s = .next t ∧
    t.txOut ≠ s.txOut := by
  let s : State := { presented 0x0200000000000000#64 (Config.chip.gapMs Config.chip.model) with
    rxHist := Config.chip.tailSig.toList, tailArmed := true, tLastRx := some 0, txq := [[0x98#8]] }
  refine ⟨s, tickBody Config.chip 0#16 { s with inputs := [], tLastOp := some s.now }, ⟨?_, fun _ => ⟨rfl, rfl⟩⟩, ?_, ?_⟩
  · simp [s]
  · show exec (.tick 0#16) _ = _
    simp only [exec, execTick]
    rw [accept_onTime (by exact onTime_onTime _)]
    rfl
  · simp [s, tickBody, sessionTick, schedule, maySend, gapElapsed, presented, onTime, at_, State.reset, State.transmit]

/-- A block that has received five bytes of the tail, the sixth presented: the step arms it. -/
theorem witness_TransmissionIsCollisionFree_arms : ∃ (s : State) (b : Byte), s.TailOk Config.chip ∧
    s.tailArmed = false ∧ s.OnTime ∧ lastSix (s.rxHist ++ [b]) = Config.chip.tailSig.toList := by
  refine ⟨{ onTime 5 with rxHist := Config.chip.tailSig.toList.take 5 }, Config.chip.tailSig[5], ⟨?_, ?_⟩, rfl,
    onTime_onTime 5, ?_⟩
  · simp
  · intro h
    cases h
  · have h : Config.chip.tailSig.toList.take 5 ++ [Config.chip.tailSig[5]] = Config.chip.tailSig.toList := by
      apply List.ext_getElem
      · simp
      · intro i h1 h2
        simp only [List.length_append, List.length_take, Vector.length_toList, List.length_singleton] at h1
        by_cases hi : i < 5
        · simp [hi]
        · have : i = 5 := by omega
          subst this
          simp
    show lastSix (Config.chip.tailSig.toList.take 5 ++ [Config.chip.tailSig[5]]) = _
    rw [h]
    simp [lastSix]

theorem witness_QueueIsFirstInFirstOut : ∃ s t : State, step s = .next t ∧ t.txq ≠ s.txq := by
  refine ⟨{ presented 0x0000000000000000#64 3 with txq := [[0x98#8]] }, _, rfl, ?_⟩
  decide +kernel

/-- A running session of one minute and a half that has published minute 1, and a step from it. -/
theorem witness_StepKeepsTheSessionInvariant : ∃ s t : State, s.SessionOk ∧ s.sessionActive = true ∧ step s = .next t :=
  ⟨{ presented 0x0200000000000000#64 90000 with sessionActive := true, sessionLastPubMin := some 1 }, _,
    fun _ => ⟨1, 90000, rfl, rfl, Nat.zero_le _, by decide +kernel⟩, rfl, rfl⟩

theorem witness_HostSideKeepsTheReceiveSide : hostSide (.tick 0#16) = true ∧ hostSide (.setHeater true) = true ∧
    (∃ t, exec (.tick 0#16) (onTime 5) = .next t) ∧ ∃ t, exec (.setHeater true) (onTime 5) = .next t :=
  ⟨rfl, rfl, ⟨_, rfl⟩, _, rfl⟩

end Sys2Proof.Tests
end

/-! # The invariants of the registers (10_state.md), kept by every step

First what an accepted packet writes to the registers the invariants speak of, then what a received byte does, then one
principle: a property that each part of `step` keeps is kept by `step`. Each invariant is an application of it. -/

namespace Sys2Proof.Machine

open Sys2Proof

/-! ### The family caches under a write -/

theorem Caches.set_c3400 (c : Caches) (f : Family) (e : CacheEntry) :
    (c.set f e).c3400 = if f = .f3400 then e else c.c3400 := by
  cases f <;> rfl

theorem Caches.set_c7180 (c : Caches) (f : Family) (e : CacheEntry) :
    (c.set f e).c7180 = if f = .f7180 then e else c.c7180 := by
  cases f <;> rfl

theorem Caches.set_cB000 (c : Caches) (f : Family) (e : CacheEntry) :
    (c.set f e).cB000 = if f = .fB000 then e else c.cB000 := by
  cases f <;> rfl

/-- A packet's payload fills its family's cache, so that the caches still without a packet are as they were. -/
theorem cachesOk_writeCache {s : State} (h : s.CachesOk) (f : Family) (d : U32) : (s.writeCache f d).CachesOk := by
  intro g hg
  rw [State.writeCache_caches] at hg ⊢
  by_cases hgf : g = f
  · subst hgf
    simp at hg
  · rw [Caches.get_set_other _ _ hgf] at hg ⊢
    exact h g hg

/-! ### What a packet's decode rule writes -/

/-- What the decode rule of family `f` makes of the flags, the queue and the pending bath time, under the session source
COIL_7180: each flag has one source, the 0x3400, 0x7180 or 0xB000 packet (R225, R232, R237); no rule sets a pending bath
time; TXQ gains at most an acknowledgement, where there was room (R270). -/
structure DecodeWrites (c : Config) (f : Family) (d : U32) (s t : State) : Prop where
  heatingStatus : t.heatingStatus = if f = .f3400 then enableFlag d else s.heatingStatus
  coilHeating : t.coilHeating = if f = .f7180 then coilFlag c d else s.coilHeating
  lightTruth : t.lightTruth = if f = .f7180 then lightFlag c d else s.lightTruth
  heaterTruth : t.heaterTruth = if f = .f7180 then coilFlag c d else s.heaterTruth
  truthLearned : t.truthLearned = if f = .f7180 then true else s.truthLearned
  sessionActive : t.sessionActive = if f = .f7180 then coilFlag c d else s.sessionActive
  ready : t.ready = if f = .fB000 then readyFlag d else s.ready
  caches : t.caches = s.caches
  btPending : t.btPending = s.btPending ∨ t.btPending = none
  txq : t.txq = s.txq ∨ (s.HasRoom c ∧ ∃ cmd, t.txq = s.txq ++ [encodeFrame cmd])

/-- SESSION_UPDATE leaves the session as its argument says, and writes the session's registers and records only. -/
theorem sessionUpdate_eq (h : Bool) (s : State) : ∃ st se lp ev, sessionUpdate h s = { s with
    sessionActive := h, sessionStartT := st, sessionElapsedS := se, sessionLastPubMin := lp, events := ev } := by
  obtain ⟨rfl, -, e⟩ | ⟨rfl, -, e⟩ | ⟨rfl, e⟩ := sessionUpdate_cases h s <;> rw [e] <;> exact ⟨_, _, _, _, rfl⟩

/-- A family that is no flag's source writes no flag by emitting a record. -/
theorem emit_writes (c : Config) {f : Family} (h3400 : f ≠ .f3400) (h7180 : f ≠ .f7180) (hB000 : f ≠ .fB000) (d : U32)
    (s : State) (k : EventKind) (v : U32) : DecodeWrites c f d s (s.emit k v) := by
  constructor <;> simp [h3400, h7180, hB000]

theorem decode3400_writes {c : Config} (hsrc : c.sessionSrc = .coil7180) (d : U32) (s : State) :
    DecodeWrites c .f3400 d s (decode3400 c d s) := by
  simp only [decode3400, hsrc]
  constructor <;> simp [State.emitHeaterState]

theorem decode4002_writes (c : Config) (d : U32) (s : State) : DecodeWrites c .f4002 d s (decode4002 c d s) := by
  unfold decode4002
  obtain ⟨-, e⟩ | ⟨p, -, e⟩ | ⟨p, -, -, e⟩ := btReconcile_cases c (btDecode (btRawOf d)) s <;> rw [e, publishBt_eq] <;>
    constructor <;> simp

theorem decode7180_writes {c : Config} (hsrc : c.sessionSrc = .coil7180) (d : U32) (s : State) :
    DecodeWrites c .f7180 d s (decode7180 c d s) := by
  simp only [decode7180, hsrc]
  obtain ⟨st, se, lp, ev, e⟩ := sessionUpdate_eq (coilFlag c d)
    (truthLearn (lightFlag c d) (coilFlag c d)
      { (s.emit .lightStatus (bitValue (lightFlag c d))).emitHeaterState
          (coilState (coilFlag c d) s.heatingStatus) with coilHeating := coilFlag c d })
  rw [e]
  constructor <;> simp [truthLearn, State.emitHeaterState]

theorem decodeB000_writes (c : Config) (d : U32) (s : State) : DecodeWrites c .fB000 d s (decodeB000 c d s) := by
  simp only [decodeB000]
  cases ackLiteralOf d with
  | none => constructor <;> simp
  | some l =>
    dsimp only
    by_cases h : s.HasRoom c
    · rw [push_room (by exact h)]
      constructor <;> simp [State.emitHeaterState, h]
    · rw [push_full (by exact h)]
      constructor <;> simp [State.emitHeaterState]

/-- Every decode rule writes what `DecodeWrites` allows its family; the rules not named above only emit records and
remember what they published. -/
theorem decodeFamily_writes {c : Config} (hsrc : c.sessionSrc = .coil7180) (f : Family) (code : U16) (d : U32)
    (s : State) : DecodeWrites c f d s (decodeFamily c f code d s) := by
  cases f with
  | f3400 => exact decode3400_writes hsrc d s
  | f4002 => exact decode4002_writes c d s
  | f7180 => exact decode7180_writes hsrc d s
  | fB000 => exact decodeB000_writes c d s
  | f6000 => simp only [decodeFamily, decode6000, publishTarget_eq]; constructor <;> simp
  | f6001 => simp only [decodeFamily, decode6001]; split <;> constructor <;> simp
  | f7000 => simp only [decodeFamily, decode7000]; split <;> constructor <;> simp [State.emitHeaterState]
  | fB6 => simp only [decodeFamily, decodeB6]; split_ifs <;> constructor <;> simp [State.emitHeaterState]
  | _ => exact emit_writes c (by decide) (by decide) (by decide) d s _ _

/-! ### What a received byte does -/

/-- ASSEMBLE ends in its own registers and diagnostics (`u`), or receives one packet of a known family from there. -/
theorem assemble_parts (c : Config) (b : Byte) (s : State) : ∃ a fb un dg u,
    u = { s with asmState := a, fbuf := fb, unesc := un, diags := dg } ∧
    (assemble c b s = u ∨ ∃ f code d, assemble c b s = receiveFamily c f code d u) := by
  obtain ⟨-, e⟩ | ⟨-, -, e⟩ | ⟨-, -, -, e⟩ | ⟨-, -, -, e⟩ | ⟨-, -, -, -, e⟩ | ⟨-, -, -, -, e⟩ :=
    assemble_cases c b s <;> rw [e]
  case inr.inr.inr.inl =>
    obtain ⟨dg, ⟨k, v, e⟩ | ⟨code, d, e⟩⟩ := decodeFrame_cases c (s.fbuf ++ [endByte]) (dropFrame s) <;> rw [e]
    · exact ⟨_, _, _, _, _, rfl, .inl rfl⟩
    · unfold dispatch
      split
      · exact ⟨_, _, _, _, _, rfl, .inr ⟨_, code, d, rfl⟩⟩
      · exact ⟨_, _, _, _, _, rfl, .inl rfl⟩
  all_goals exact ⟨_, _, _, _, _, rfl, .inl rfl⟩

/-- RX_BYTE notes the byte, then ends in the receive side's own registers (`u`), or receives one packet from there. -/
theorem rxByteBody_parts (c : Config) (b : Byte) (s : State) : ∃ a fb un dg u,
    u = { s with
      tLastRx := some s.now, rxHist := pushHistory s.rxHist b, tailArmed := tailFlag c (pushHistory s.rxHist b)
      asmState := a, fbuf := fb, unesc := un, diags := dg } ∧
    (rxByteBody c b s = u ∨ ∃ f code d, rxByteBody c b s = receiveFamily c f code d u) :=
  assemble_parts c b (tailUpdate c b { s with tLastRx := some s.now })

/-! ### What keeps an invariant -/

/-- Each part of a step of the modelled block keeps `P`: taking an operation from the port, refusing it, T_LAST_OP of an
operation that is on time, and then RESET, RX_BYTE, TICK and the command path. -/
structure KeptByParts (P : State → Prop) : Prop where
  take : ∀ s op rest, P s → P (s.take op rest)
  refuse : ∀ s r, P s → P (s.refuse r)
  noteOp : ∀ s, s.OnTime → P s → P s.noteOp
  reset : ∀ s, s.tLastOp = some s.now → P s → P (resetBody s)
  rxByte : ∀ b s, s.tLastOp = some s.now → P s → P (rxByteBody Config.chip b s)
  tick : ∀ n s, s.tLastOp = some s.now → P s → P (tickBody Config.chip n s)
  command : ∀ s t, s.tLastOp = some s.now → CommandKeeps Config.chip s t → P s → P t

theorem KeptByParts.step {P : State → Prop} (k : KeptByParts P) {s t : State} (hs : P s)
    (h : step s = .next t) : P t := by
  obtain ⟨-, rfl⟩ | ⟨op, rest, -, ⟨r, rfl⟩ | ⟨i, hd, hi⟩⟩ := step_parts h
  · exact hs
  · exact k.refuse _ r (k.take s op rest hs)
  · have ht : P (s.take op rest) := k.take s op rest hs
    obtain ⟨r, rfl⟩ | ⟨ho, hp⟩ := portOp_cases hd hi
    · exact k.refuse _ r ht
    · have hn : P (s.take op rest).noteOp := k.noteOp _ ho ht
      obtain ⟨-, rfl⟩ | ⟨b, -, rfl⟩ | ⟨n, -, rfl⟩ | hc := hp
      · exact k.reset _ rfl hn
      · exact k.rxByte b _ rfl hn
      · exact k.tick n _ rfl hn
      · exact k.command _ t rfl hc hn

/-! ### The queue (R26) -/

theorem escEncodeByte_length (b : Byte) : 1 ≤ (escEncodeByte b).length ∧ (escEncodeByte b).length ≤ 2 := by
  unfold escEncodeByte
  split_ifs <;> simp

theorem escEncodeByte_noMarker (b : Byte) : ∀ x ∈ escEncodeByte b, x ≠ startByte ∧ x ≠ endByte := by
  unfold escEncodeByte
  split_ifs with h1 h2 h3
  · decide
  · decide
  · decide
  · simpa [startByte, endByte] using ⟨h2, h1⟩

theorem escEncode_length (l : List Byte) : l.length ≤ (escEncode l).length ∧ (escEncode l).length ≤ 2 * l.length := by
  induction l with
  | nil => simp
  | cons b l ih =>
    have := escEncodeByte_length b
    simp only [escEncode_cons, List.length_append, List.length_cons]
    omega

theorem escEncode_noMarker (l : List Byte) : ∀ x ∈ escEncode l, x ≠ startByte ∧ x ≠ endByte := by
  intro x hx
  obtain ⟨b, -, hb⟩ := List.mem_flatMap.1 hx
  exact escEncodeByte_noMarker b x hb

/-- Ten packet bytes of one or two wire bytes each, between the two markers (R95, R153). -/
theorem wireFrame_encodeFrame (cmd : Cmd) : WireFrame (encodeFrame cmd) := by
  have hl := escEncode_length (packetBytes 0x40#8 cmd.type cmd.code cmd.data)
  rw [packetBytes_length] at hl
  refine ⟨rfl, List.getLast?_concat, ?_, ?_, ?_⟩
  · rw [encodeFrame, frameBody_frameOf]
    exact escEncode_noMarker _
  all_goals
    simp only [encodeFrame, frameOf, List.length_append, List.length_singleton]
    omega

/-- A frame that PUSH adds where there is room keeps the bound and is a command's. -/
theorem queueOk_of_push {c : Config} {s t : State} (hs : s.QueueOk c)
    (h : t.txq = s.txq ∨ (s.HasRoom c ∧ ∃ cmd, t.txq = s.txq ++ [encodeFrame cmd])) : t.QueueOk c := by
  obtain ⟨hlen, hall⟩ := hs
  obtain e | ⟨hroom, cmd, e⟩ := h
  · simpa only [State.QueueOk, e] using ⟨hlen, hall⟩
  · refine ⟨?_, fun f hf => ?_⟩
    · rw [e, List.length_append, List.length_singleton]
      exact Nat.lt_of_le_of_ne hlen hroom
    · rw [e, List.mem_append, List.mem_singleton] at hf
      obtain hf | rfl := hf
      · exact hall f hf
      · exact ⟨⟨cmd, rfl⟩, wireFrame_encodeFrame cmd⟩

theorem queueOk_keptByParts : KeptByParts (fun s => s.QueueOk Config.chip) where
  take _ _ _ h := h
  refuse _ _ h := h
  noteOp _ _ h := h
  reset _ _ _ := ⟨Nat.zero_le _, fun f hf => absurd hf List.not_mem_nil⟩
  rxByte b s _ h := by
    obtain ⟨a, fb, un, dg, u, rfl, e | ⟨f, code, d, e⟩⟩ := rxByteBody_parts Config.chip b s <;> rw [e]
    · exact h
    · exact queueOk_of_push h (decodeFamily_writes rfl f code d (State.writeCache _ f d)).txq
  tick n s _ h := by
    obtain ⟨se, lp, ev, u, rfl, -, e | ⟨f, rest, t, hq, -, -, -, -, e⟩⟩ := tickBody_cases Config.chip n s <;> rw [e]
    · exact h
    · obtain ⟨hlen, hall⟩ := h
      rw [hq] at hlen hall
      exact ⟨Nat.le_of_succ_le hlen, fun g hg => hall g (List.mem_cons_of_mem f hg)⟩
  command _ _ _ hc h := queueOk_of_push h hc.txq

/-- Settles O50: only PUSH adds to TXQ, where there is room, and it adds an encoded frame. -/
theorem stepKeepsTheQueueInvariant : Obligations.StepKeepsTheQueueInvariant :=
  fun _ _ hs h => queueOk_keptByParts.step hs h

/-! ### The tail detector (R23, R24) -/

theorem pushHistory_length (hist : List Byte) (b : Byte) : (pushHistory hist b).length ≤ 6 := by
  simp only [pushHistory, List.length_drop]
  omega

theorem tailFlag_iff {c : Config} {hist : List Byte} : tailFlag c hist = true ↔ hist = c.tailSig.toList := by
  simp [tailFlag]

/-- The invariant speaks of three registers that a packet's reception leaves alone. -/
theorem tailOk_receiveKeeps {c : Config} {s t : State} (hs : s.TailOk c) (k : ReceiveKeeps s t) : t.TailOk c := by
  simpa only [State.TailOk, k.rxHist, k.tailArmed, k.tLastRx] using hs

theorem tailOk_keptByParts : KeptByParts (fun s => s.TailOk Config.chip) where
  take _ _ _ h := h
  refuse _ _ h := h
  noteOp _ _ h := h
  reset _ _ _ := ⟨Nat.zero_le _, fun h => nomatch h⟩
  rxByte b s _ _ := by
    obtain ⟨a, fb, hk⟩ := assemble_keeps Config.chip b (tailUpdate Config.chip b { s with tLastRx := some s.now })
    exact tailOk_receiveKeeps ⟨pushHistory_length s.rxHist b, fun h => ⟨tailFlag_iff.1 h, rfl⟩⟩ hk
  tick n s _ h := by
    obtain ⟨se, lp, ev, u, rfl, -, e | ⟨f, rest, t, -, -, -, -, -, e⟩⟩ := tickBody_cases Config.chip n s <;> rw [e]
    · exact h
    · obtain ⟨hlen, -⟩ := h
      exact ⟨hlen, fun h => nomatch h⟩
  command _ _ _ hc h := by simpa only [State.TailOk, hc.rxHist, hc.tailArmed, hc.tLastRx] using h

/-- Settles O51: only RX_BYTE arms the block, and it compares the history that it has just stored. -/
theorem stepKeepsTheTailInvariant : Obligations.StepKeepsTheTailInvariant :=
  fun _ _ hs h => tailOk_keptByParts.step hs h

/-! ### The timestamps (R49, R392) -/

@[simp] theorem stampOk_self (n : Nat) : stampOk (some n) (some n) = true := by simp [stampOk]

@[simp] theorem stampOk_none (u : Option Nat) : stampOk none u = true := rfl

/-- A stamp stays good when an operation that is on time replaces T_LAST_OP. -/
theorem stampOk_noteOp {s : State} (ho : s.OnTime) {t : Option Nat} (h : stampOk t s.tLastOp = true) :
    stampOk t (some s.now) = true := by
  have hle := onTime_iff.1 ho
  match t, hu : s.tLastOp with
  | none, _ => rfl
  | some t, none => simp [stampOk, hu] at h
  | some t, some u =>
    simp only [stampOk, hu, decide_eq_true_eq] at h ⊢
    exact h.trans (hle u hu)

/-- A register that kept its good stamp or took the operation's timestamp holds a good stamp. -/
theorem stampOk_of_kept_or_now {n : Nat} {old new : Option Nat} (h : stampOk old (some n) = true)
    (e : new = old ∨ new = some n) : stampOk new (some n) = true := by
  obtain rfl | rfl := e
  · exact h
  · exact stampOk_self n

/-- A session that a packet starts takes the operation's timestamp; a packet sets no other stamp. -/
theorem stampsOk_receiveFamily {c : Config} (hsrc : c.sessionSrc = .coil7180) (f : Family) (code : U16) (d : U32)
    {s : State} (hop : s.tLastOp = some s.now) (hs : s.StampsOk) : (receiveFamily c f code d s).StampsOk := by
  obtain ⟨hrx, hlight, hheater, hbt, hsession⟩ := hs
  have k := ReceiveKeeps.receiveFamily c f code d s
  have w := decodeFamily_writes hsrc f code d (s.writeCache f d)
  simp only [State.StampsOk, k.tLastRx, k.lastCmdLight, k.lastCmdHeater, k.btSetT, k.tLastOp]
  refine ⟨hrx, hlight, hheater, fun h => hbt ?_, fun h => ?_⟩
  · obtain e | e := w.btPending
    · rwa [receiveFamily, e] at h
    · rw [receiveFamily, e] at h
      cases h
  · obtain ⟨ea, et, -⟩ | ⟨-, et, -⟩ | ea := decodeFamily_moves c f code d (s.writeCache f d)
    · rw [receiveFamily, ea] at h
      rw [receiveFamily, et]
      exact hsession h
    · rw [receiveFamily, et, hop]
      exact stampOk_self s.now
    · rw [receiveFamily, ea] at h
      cases h

theorem stampsOk_keptByParts : KeptByParts State.StampsOk where
  take _ _ _ h := h
  refuse _ _ h := h
  noteOp s ho h := by
    obtain ⟨hrx, hlight, hheater, hbt, hsession⟩ := h
    exact ⟨stampOk_noteOp ho hrx, stampOk_noteOp ho hlight, stampOk_noteOp ho hheater,
      fun h => stampOk_noteOp ho (hbt h), fun h => stampOk_noteOp ho (hsession h)⟩
  reset _ _ _ := by simp [State.StampsOk, resetBody]
  rxByte b s hop h := by
    have hu : ∀ a fb un dg, State.StampsOk { s with
        tLastRx := some s.now, rxHist := pushHistory s.rxHist b
        tailArmed := tailFlag Config.chip (pushHistory s.rxHist b)
        asmState := a, fbuf := fb, unesc := un, diags := dg } := by
      obtain ⟨-, hrest⟩ := h
      exact fun _ _ _ _ => ⟨by simp [hop], hrest⟩
    obtain ⟨a, fb, un, dg, u, rfl, e | ⟨f, code, d, e⟩⟩ := rxByteBody_parts Config.chip b s <;> rw [e]
    · exact hu a fb un dg
    · exact stampsOk_receiveFamily rfl f code d hop (hu a fb un dg)
  tick n s _ h := by
    obtain ⟨se, lp, ev, u, rfl, -, e | ⟨f, rest, t, -, -, -, -, -, e⟩⟩ := tickBody_cases Config.chip n s <;>
      rw [e] <;> exact h
  command s t hop hc h := by
    obtain ⟨hrx, hlight, hheater, hbt, hsession⟩ := h
    rw [hop] at hrx hlight hheater hbt hsession
    simp only [State.StampsOk, hc.tLastOp, hop, hc.tLastRx, hc.sessionActive, hc.sessionStartT]
    refine ⟨hrx, stampOk_of_kept_or_now hlight hc.lastCmdLight, stampOk_of_kept_or_now hheater hc.lastCmdHeater, ?_,
      hsession⟩
    obtain ⟨e1, e2⟩ | e := hc.bathTime
    · rwa [e1, e2]
    · simp [e]

/-- T_LAST_OP is set, to `u` or later. -/
def State.LastOpFrom (u : Nat) (s : State) : Prop := ∃ v, s.tLastOp = some v ∧ u ≤ v

theorem lastOpFrom_of_eq {u : Nat} {s t : State} (hs : s.LastOpFrom u) (e : t.tLastOp = s.tLastOp) :
    t.LastOpFrom u := by
  simpa only [State.LastOpFrom, e] using hs

theorem rxByteBody_tLastOp (c : Config) (b : Byte) (s : State) : (rxByteBody c b s).tLastOp = s.tLastOp := by
  obtain ⟨_, _, hk⟩ := assemble_keeps c b (tailUpdate c b { s with tLastRx := some s.now })
  exact hk.tLastOp

theorem tickBody_tLastOp (c : Config) (n : U16) (s : State) : (tickBody c n s).tLastOp = s.tLastOp := by
  obtain ⟨_, _, _, u, rfl, -, e | ⟨_, _, _, -, -, -, -, -, e⟩⟩ := tickBody_cases c n s <;> rw [e]

theorem lastOpFrom_keptByParts (u : Nat) : KeptByParts (State.LastOpFrom u) where
  take _ _ _ h := h
  refuse _ _ h := h
  noteOp s ho h := by
    obtain ⟨v, hv, huv⟩ := h
    exact ⟨s.now, rfl, huv.trans (onTime_iff.1 ho v hv)⟩
  reset s hop h := lastOpFrom_of_eq h hop.symm
  rxByte b s _ h := lastOpFrom_of_eq h (rxByteBody_tLastOp Config.chip b s)
  tick n s _ h := lastOpFrom_of_eq h (tickBody_tLastOp Config.chip n s)
  command _ _ _ hc h := lastOpFrom_of_eq h hc.tLastOp

/-- Settles O52: an operation that runs is on time, so its timestamp is a bound of all stamps stored before it, and it
stores no other. -/
theorem stepKeepsTheStampsInvariant : Obligations.StepKeepsTheStampsInvariant :=
  fun _ _ h => ⟨fun hs => stampsOk_keptByParts.step hs h,
    fun u hu => (lastOpFrom_keptByParts u).step ⟨u, hu, Nat.le_refl u⟩ h⟩

/-! ### The flags and the caches (R27 to R31, R35, R40, R42) -/

/-- A packet writes its cache and the flags that the cache is the source of, from the same payload. -/
theorem flagsOk_receiveFamily {c : Config} (hsrc : c.sessionSrc = .coil7180) (f : Family) (code : U16) (d : U32)
    {s : State} (hs : s.FlagsOk c) : (receiveFamily c f code d s).FlagsOk c := by
  obtain ⟨hheat, hlearned, hlight, hheater, hcoil, hactive, hpub, hready⟩ := hs
  have w := decodeFamily_writes hsrc f code d (s.writeCache f d)
  have hpub' : (receiveFamily c f code d s).sessionActive = true →
      (receiveFamily c f code d s).sessionLastPubMin.isSome = true := fun h => by
    obtain ⟨ea, -, ep⟩ | ⟨-, -, ep⟩ | ea := decodeFamily_moves c f code d (s.writeCache f d)
    · rw [receiveFamily, ea] at h
      rw [receiveFamily, ep]
      exact hpub h
    · rw [receiveFamily, ep]
      rfl
    · rw [receiveFamily, ea] at h
      cases h
  refine ⟨?_, ?_, ?_, ?_, ?_, ?_, hpub', ?_⟩
  all_goals
    simp only [receiveFamily, w.caches, w.heatingStatus, w.truthLearned, w.lightTruth, w.heaterTruth, w.coilHeating,
      w.sessionActive, w.ready, State.writeCache_caches, Caches.set_c3400, Caches.set_c7180, Caches.set_cB000]
    split_ifs
    · rfl
    · assumption

theorem cachesOk_receiveFamily {c : Config} (hsrc : c.sessionSrc = .coil7180) (f : Family) (code : U16) (d : U32)
    {s : State} (hs : s.CachesOk) : (receiveFamily c f code d s).CachesOk := by
  have w := decodeFamily_writes hsrc f code d (s.writeCache f d)
  simpa only [State.CachesOk, receiveFamily, w.caches] using cachesOk_writeCache hs f d

theorem flagsOk_resetBody (c : Config) (s : State) : (resetBody s).FlagsOk c := by
  simp [State.FlagsOk, resetBody, enableFlag, lightFlag, coilFlag, coilField]

theorem cachesOk_resetBody (s : State) : (resetBody s).CachesOk := by
  intro f _
  cases f <;> rfl

theorem flagsOk_keptByParts : KeptByParts (fun s => s.FlagsOk Config.chip) where
  take _ _ _ h := h
  refuse _ _ h := h
  noteOp _ _ h := h
  reset s _ _ := flagsOk_resetBody Config.chip s
  rxByte b s _ h := by
    obtain ⟨a, fb, un, dg, u, rfl, e | ⟨f, code, d, e⟩⟩ := rxByteBody_parts Config.chip b s <;> rw [e]
    · exact h
    · exact flagsOk_receiveFamily rfl f code d h
  tick n s _ h := by
    obtain ⟨hheat, hlearned, hlight, hheater, hcoil, hactive, hpub, hready⟩ := h
    obtain ⟨se, lp, ev, u, rfl, hlp, ht⟩ := tickBody_cases Config.chip n s
    have hpub' : s.sessionActive = true → lp.isSome = true := fun h => by
      obtain ⟨-, rfl⟩ | rfl := hlp
      · rfl
      · exact hpub h
    obtain e | ⟨f, rest, t, -, -, -, -, -, e⟩ := ht <;> rw [e] <;>
      exact ⟨hheat, hlearned, hlight, hheater, hcoil, hactive, hpub', hready⟩
  command _ _ _ hc h := by
    simpa only [State.FlagsOk, hc.heatingStatus, hc.truthLearned, hc.lightTruth, hc.heaterTruth, hc.coilHeating,
      hc.sessionActive, hc.sessionLastPubMin, hc.ready, hc.caches] using h

theorem cachesOk_keptByParts : KeptByParts State.CachesOk where
  take _ _ _ h := h
  refuse _ _ h := h
  noteOp _ _ h := h
  reset s _ _ := cachesOk_resetBody s
  rxByte b s _ h := by
    obtain ⟨a, fb, un, dg, u, rfl, e | ⟨f, code, d, e⟩⟩ := rxByteBody_parts Config.chip b s <;> rw [e]
    · exact h
    · exact cachesOk_receiveFamily rfl f code d h
  tick n s _ h := by
    obtain ⟨se, lp, ev, u, rfl, -, e | ⟨f, rest, t, -, -, -, -, -, e⟩⟩ := tickBody_cases Config.chip n s <;>
      rw [e] <;> exact h
  command _ _ _ hc h := by simpa only [State.CachesOk, hc.caches] using h

/-- Settles O53: a packet fills its cache and sets that family's flags from the one payload; RESET clears both. -/
theorem stepKeepsTheFlagsInvariant : Obligations.StepKeepsTheFlagsInvariant :=
  fun _ _ hf hc h => ⟨flagsOk_keptByParts.step hf h, cachesOk_keptByParts.step hc h⟩

/-! ### The host's side (R48) -/

theorem accept_cases (body : State → State) (s : State) :
    accept body s = s.refuse .timeRegress ∨ accept body s = body s.noteOp := by
  by_cases h : s.OnTime
  · exact .inr (accept_onTime h)
  · exact .inl (accept_late h)

/-- An operation of the command path under the checks of R361: refused, or within what that path writes. -/
theorem accept_command {c : Config} {body : State → State} (hb : ∀ s, CommandKeeps c s (body s)) (s : State) :
    (∃ r, accept body s = s.refuse r) ∨ CommandKeeps c s.noteOp (accept body s) := by
  obtain e | e := accept_cases body s
  · exact .inl ⟨_, e⟩
  · exact .inr (e ▸ hb s.noteOp)

theorem setHumPct_command (c : Config) (p : Nat) (s : State) :
    (∃ r, setHumPct c p s = s.refuse r) ∨ CommandKeeps c s.noteOp (setHumPct c p s) := by
  unfold setHumPct
  dsimp only
  split
  · exact .inl ⟨_, rfl⟩
  · exact accept_command (fun s => .pushOnly c _ s) s

/-- TICK, ENQUEUE and the SETs: refused, TICK's body, or within what the command path writes. -/
theorem hostSide_cases {i : Instr} {s t : State} (hi : Statements.hostSide i = true) (h : exec i s = .next t) :
    (∃ r, t = s.refuse r) ∨ (∃ n, i = .tick n ∧ t = tickBody Config.chip n s.noteOp) ∨
    CommandKeeps Config.chip s.noteOp t := by
  have command : (∃ r, t = s.refuse r) ∨ CommandKeeps Config.chip s.noteOp t → (∃ r, t = s.refuse r) ∨
      (∃ n, i = .tick n ∧ t = tickBody Config.chip n s.noteOp) ∨ CommandKeeps Config.chip s.noteOp t :=
    Or.imp_right .inr
  cases i with
  | tick n =>
    cases h
    obtain e | e := accept_cases (tickBody Config.chip n) s
    · exact .inl ⟨_, e⟩
    · exact .inr (.inl ⟨n, rfl, e⟩)
  | enqueue type code data => cases h; exact command (accept_command (fun s => .pushOnly _ _ s) s)
  | setBathTime minutes => cases h; exact command (accept_command (fun s => .setBathTimeBody _ _ s) s)
  | setBathTemp celsius => cases h; exact command (accept_command (fun s => .pushOnly _ _ s) s)
  | setMaxBathTemp celsius => cases h; exact command (accept_command (fun s => .pushOnly _ _ s) s)
  | setHumStep step => cases h; exact command (accept_command (fun s => .pushOnly _ _ s) s)
  | setHumPct percent => cases h; exact command (setHumPct_command _ _ s)
  | setLight on => cases h; exact command (accept_command (fun s => .relaySet _ _ _ s) s)
  | setHeater on => cases h; exact command (accept_command (fun s => .relaySet _ _ _ s) s)
  | _ => cases hi

/-- Settles O59: the command path writes none of these registers, and TICK only TAIL_ARMED, where it sends. -/
theorem hostSideKeepsTheReceiveSide : Obligations.HostSideKeepsTheReceiveSide := by
  intro i s t hi h
  obtain ⟨r, rfl⟩ | ⟨n, rfl, rfl⟩ | k := hostSide_cases hi h
  · simp
  · obtain ⟨se, lp, ev, u, rfl, -, e | ⟨f, rest, t, hq, harmed, -, -, -, e⟩⟩ :=
      tickBody_cases Config.chip n s.noteOp <;> rw [e]
    · simp
    · simp only [State.noteOp_txq, State.noteOp_tailArmed] at hq harmed
      simp [hq, harmed]
  · simp [k.asmState, k.fbuf, k.rxHist, k.tLastRx, k.heatingStatus, k.coilHeating, k.lightTruth, k.heaterTruth,
      k.truthLearned, k.caches, k.codeB6Lo, k.ready, k.lastPubTarget, k.diags, k.unesc, k.tailArmed]

end Sys2Proof.Machine

/-! # The encoding (30_encoding.md R97, R100 to R103; 41_escape.md R151)

First how a port word is put together and taken apart, then the rows of R101, which all but ENQUEUE have one layout,
then the marker bytes, the escape pairs and the packets; at the end the statements about `decode` and `encode`. -/

namespace Sys2Proof

open Sys2Proof.Statements

/-! ### Port words (R100) -/

@[simp] theorem opOf_portWord (op : Byte) (x : BitVec 56) : opOf (portWord op x) = op :=
  BitVec.extractLsb'_append_eq_left

theorem extractLsb'_portWord {start len : Nat} (h : start + len ≤ 56) (op : Byte) (x : BitVec 56) :
    (portWord op x).extractLsb' start len = x.extractLsb' start len :=
  BitVec.extractLsb'_append_eq_of_add_le h

theorem portWord_opOf (w : PortWord) : portWord (opOf w) (w.extractLsb' 0 56) = w :=
  (BitVec.extractLsb'_append_extractLsb'_eq_extractLsb' rfl).trans BitVec.extractLsb'_eq_self

theorem getLsbD_of_reserved_zero {k i : Nat} {w : PortWord} (hr : w.extractLsb' k (56 - k) = 0#(56 - k)) (hki : k ≤ i)
    (hi : i < 56) : w.getLsbD i = false := by
  have hbit : (w.extractLsb' k (56 - k)).getLsbD (i - k) = false := by simp [hr]
  have hlt : i - k < 56 - k := by omega
  simpa only [BitVec.getLsbD_extractLsb', hlt, Nat.add_sub_cancel' hki, decide_true, Bool.true_and] using hbit

/-- The operand bits of a word whose bits above the field are 0 are the field alone. -/
theorem setWidth_field_of_reserved_zero {k : Nat} {w : PortWord} (hr : w.extractLsb' k (56 - k) = 0#(56 - k)) :
    (w.extractLsb' 0 k).setWidth 56 = w.extractLsb' 0 56 := by
  refine BitVec.eq_of_getLsbD_eq fun i hi => ?_
  by_cases hik : i < k
  · simp [hi, hik]
  · simp [hi, hik, getLsbD_of_reserved_zero hr (Nat.le_of_not_lt hik) hi]

/-- A field of `k` bits leaves the operand bits above it 0. -/
theorem reserved_of_field {k : Nat} (op : Byte) (x : BitVec k) (hk : k ≤ 56) :
    (portWord op (x.setWidth 56)).extractLsb' k (56 - k) = 0#(56 - k) := by
  rw [extractLsb'_portWord (by omega), BitVec.extractLsb'_setWidth_of_le (by omega)]
  refine BitVec.eq_of_getLsbD_eq fun i _ => ?_
  simp

/-- A word with a bit set under a mask of operand bits from `k` up has a reserved bit set. -/
theorem reserved_ne_zero_of_mask {k : Nat} {w mask : PortWord}
    (hmask : ∀ i < 64, mask.getLsbD i = true → k ≤ i ∧ i < 56) (hw : w &&& mask ≠ 0#64) :
    w.extractLsb' k (56 - k) ≠ 0#(56 - k) := by
  refine fun hr => hw (BitVec.eq_of_getLsbD_eq fun i hi => ?_)
  by_cases hm : mask.getLsbD i = true
  · obtain ⟨hki, hi56⟩ := hmask i hi hm
    simp [getLsbD_of_reserved_zero hr hki hi56]
  · simp [hm]

/-! ### The rows of R101 -/

/-- The operation with code `op` has one operand field, the low `k` bits, and is `mk` of it; its other operand bits are
reserved. Every row of R101 but ENQUEUE has this layout. -/
structure PortRow (op : Byte) (k : Nat) (mk : BitVec k → Instr) : Prop where
  le : k ≤ 56
  decodes : ∀ w, opOf w = op →
    decodePort w = ifReservedZero (w.extractLsb' k (56 - k) == 0#(56 - k)) (mk (w.extractLsb' 0 k))
  encodes : ∀ x, encode (mk x) = .portWord (portWord op (x.setWidth 56))
  wf : ∀ x, (mk x).wf = true

section
variable {op : Byte} {k : Nat} {mk : BitVec k → Instr}

theorem PortRow.decode_encode (r : PortRow op k mk) (x : BitVec k) : decode (encode (mk x)) = .ok (mk x) := by
  have hfield : (portWord op (x.setWidth 56)).extractLsb' 0 k = x := by
    rw [extractLsb'_portWord (by simpa using r.le), BitVec.extractLsb'_setWidth_of_le (by simpa using r.le),
      BitVec.extractLsb'_eq_self]
  rw [r.encodes, decode, r.decodes _ (opOf_portWord op _), reserved_of_field op x r.le, hfield]
  simp [ifReservedZero]

theorem PortRow.encode_of_decodePort (r : PortRow op k mk) {w : PortWord} {i : Instr} (hop : opOf w = op)
    (h : decodePort w = .ok i) : encode i = .portWord w ∧ i.wf = true := by
  rw [r.decodes w hop, ifReservedZero] at h
  split at h
  · next hr =>
    cases h
    refine ⟨?_, r.wf _⟩
    rw [r.encodes, setWidth_field_of_reserved_zero (eq_of_beq hr), ← hop, portWord_opOf]
  · cases h

theorem PortRow.badOperand (r : PortRow op k mk) {w mask : PortWord} (hop : opOf w = op)
    (hmask : ∀ i < 64, mask.getLsbD i = true → k ≤ i ∧ i < 56) (hw : w &&& mask ≠ 0#64) :
    decodePort w = .error .badOperand := by
  have hr := reserved_ne_zero_of_mask hmask hw
  rw [r.decodes w hop, ifReservedZero, if_neg (by simpa using hr)]

end

theorem portRow_reset : PortRow 0x00#8 0 (fun _ => .reset) :=
  ⟨by decide, fun w h => by rw [decodePort, h]; rfl, fun x => by rw [BitVec.of_length_zero (x := x)]; rfl, fun _ => rfl⟩

theorem portRow_rxByte : PortRow 0x01#8 8 .rxByte :=
  ⟨by decide, fun w h => by rw [decodePort, h]; rfl, fun _ => rfl, fun _ => rfl⟩

theorem portRow_tick : PortRow 0x02#8 16 .tick :=
  ⟨by decide, fun w h => by rw [decodePort, h]; rfl, fun _ => rfl, fun _ => rfl⟩

theorem portRow_setBathTime : PortRow 0x10#8 16 .setBathTime :=
  ⟨by decide, fun w h => by rw [decodePort, h]; rfl, fun _ => rfl, fun _ => rfl⟩

theorem portRow_setBathTemp : PortRow 0x11#8 16 .setBathTemp :=
  ⟨by decide, fun w h => by rw [decodePort, h]; rfl, fun _ => rfl, fun _ => rfl⟩

theorem portRow_setMaxBathTemp : PortRow 0x12#8 16 .setMaxBathTemp :=
  ⟨by decide, fun w h => by rw [decodePort, h]; rfl, fun _ => rfl, fun _ => rfl⟩

theorem portRow_setHumStep : PortRow 0x13#8 8 .setHumStep :=
  ⟨by decide, fun w h => by rw [decodePort, h]; rfl, fun _ => rfl, fun _ => rfl⟩

theorem portRow_setHumPct : PortRow 0x14#8 8 .setHumPct :=
  ⟨by decide, fun w h => by rw [decodePort, h]; rfl, fun _ => rfl, fun _ => rfl⟩

theorem bitField_getLsbD_zero (x : BitVec 1) : bitField (x.getLsbD 0) = x := by
  rw [bitField, ← BitVec.setWidth_one, BitVec.setWidth_eq]

theorem getLsbD_zero_bitField (b : Bool) : (bitField b).getLsbD 0 = b := by cases b <;> rfl

theorem portRow_setLight : PortRow 0x15#8 1 (fun x => .setLight (x.getLsbD 0)) :=
  ⟨by decide, fun w h => by rw [decodePort, h]; simp, fun x => by simp only [encode, bitField_getLsbD_zero],
    fun _ => rfl⟩

theorem portRow_setHeater : PortRow 0x16#8 1 (fun x => .setHeater (x.getLsbD 0)) :=
  ⟨by decide, fun w h => by rw [decodePort, h]; simp, fun x => by simp only [encode, bitField_getLsbD_zero],
    fun _ => rfl⟩

/-- ENQUEUE's three fields fill the operand bits: no bit of it is reserved. -/
theorem decodePort_enqueue {w : PortWord} (h : opOf w = 0x03#8) : decodePort w =
    .ok (.enqueue (w.extractLsb' 48 8) (w.extractLsb' 32 16) (w.extractLsb' 0 32)) := by
  rw [decodePort, h]; rfl

theorem decode_encode_enqueue (t : Byte) (c : U16) (d : U32) :
    decode (encode (.enqueue t c d)) = .ok (.enqueue t c d) := by
  have ht : (t ++ c ++ d).extractLsb' 48 8 = t := by
    rw [BitVec.extractLsb'_append_eq_of_le (by decide)]
    exact BitVec.extractLsb'_append_eq_left
  have hc : (t ++ c ++ d).extractLsb' 32 16 = c := by
    rw [BitVec.extractLsb'_append_eq_of_le (by decide)]
    exact BitVec.extractLsb'_append_eq_right
  have hd : (t ++ c ++ d).extractLsb' 0 32 = d := BitVec.extractLsb'_append_eq_right
  rw [encode, decode, decodePort_enqueue (opOf_portWord _ _), extractLsb'_portWord (by decide),
    extractLsb'_portWord (by decide), extractLsb'_portWord (by decide), ht, hc, hd]

theorem encode_of_decodePort_enqueue {w : PortWord} {i : Instr} (hop : opOf w = 0x03#8) (h : decodePort w = .ok i) :
    encode i = .portWord w ∧ i.wf = true := by
  rw [decodePort_enqueue hop] at h
  cases h
  refine ⟨?_, rfl⟩
  have htc : w.extractLsb' 48 8 ++ w.extractLsb' 32 16 = w.extractLsb' 32 24 :=
    BitVec.extractLsb'_append_extractLsb'_eq_extractLsb' rfl
  have htcd : w.extractLsb' 32 24 ++ w.extractLsb' 0 32 = w.extractLsb' 0 56 :=
    BitVec.extractLsb'_append_extractLsb'_eq_extractLsb' rfl
  rw [encode, htc, htcd, ← hop, portWord_opOf]

theorem toNat_ne_of_notMem {n : Nat} {x : BitVec n} {l : List (BitVec n)} (h : x ∉ l) :
    ∀ m ∈ l.map BitVec.toNat, x.toNat ≠ m := by
  rintro m hm rfl
  obtain ⟨y, hy, hyx⟩ := List.mem_map.1 hm
  exact h (BitVec.eq_of_toNat_eq hyx ▸ hy)

theorem decodePort_badOp {w : PortWord} (h : opOf w ∉ definedOps) : decodePort w = .error .badOp := by
  unfold decodePort
  split
  case h_12 => rfl
  all_goals next e => exact absurd e (toNat_ne_of_notMem h _ (by decide))

/-- An accepted port word has a defined operation and no reserved bit set (R103), so that the operand fields read from
it are all of it. -/
theorem encode_of_decodePort {w : PortWord} {i : Instr} (h : decodePort w = .ok i) :
    encode i = .portWord w ∧ i.wf = true := by
  by_cases hop : opOf w ∈ definedOps
  · simp only [definedOps, List.mem_cons, List.not_mem_nil, or_false] at hop
    obtain e | e | e | e | e | e | e | e | e | e | e := hop
    · exact portRow_reset.encode_of_decodePort e h
    · exact portRow_rxByte.encode_of_decodePort e h
    · exact portRow_tick.encode_of_decodePort e h
    · exact encode_of_decodePort_enqueue e h
    · exact portRow_setBathTime.encode_of_decodePort e h
    · exact portRow_setBathTemp.encode_of_decodePort e h
    · exact portRow_setMaxBathTemp.encode_of_decodePort e h
    · exact portRow_setHumStep.encode_of_decodePort e h
    · exact portRow_setHumPct.encode_of_decodePort e h
    · exact portRow_setLight.encode_of_decodePort e h
    · exact portRow_setHeater.encode_of_decodePort e h
  · rw [decodePort_badOp hop] at h
    cases h

/-- Each mask of `reservedBits` covers operand bits above its row's field. -/
theorem decodePort_badOperand {code : Byte} {mask w : PortWord} (hmem : (code, mask) ∈ reservedBits)
    (hop : opOf w = code) (hw : w &&& mask ≠ 0#64) : decodePort w = .error .badOperand := by
  simp only [reservedBits, List.mem_cons, Prod.mk.injEq, List.not_mem_nil, or_false] at hmem
  obtain ⟨rfl, rfl⟩ | ⟨rfl, rfl⟩ | ⟨rfl, rfl⟩ | ⟨rfl, rfl⟩ | ⟨rfl, rfl⟩ | ⟨rfl, rfl⟩ | ⟨rfl, rfl⟩ | ⟨rfl, rfl⟩ |
    ⟨rfl, rfl⟩ | ⟨rfl, rfl⟩ := hmem
  · exact portRow_reset.badOperand hop (by decide) hw
  · exact portRow_rxByte.badOperand hop (by decide) hw
  · exact portRow_tick.badOperand hop (by decide) hw
  · exact portRow_setBathTime.badOperand hop (by decide) hw
  · exact portRow_setBathTemp.badOperand hop (by decide) hw
  · exact portRow_setMaxBathTemp.badOperand hop (by decide) hw
  · exact portRow_setHumStep.badOperand hop (by decide) hw
  · exact portRow_setHumPct.badOperand hop (by decide) hw
  · exact portRow_setLight.badOperand hop (by decide) hw
  · exact portRow_setHeater.badOperand hop (by decide) hw

/-! ### Marker bytes and escape pairs (R151) -/

theorem encode_of_decodeByte {b : Byte} {i : Instr} (h : decodeByte b = .ok i) :
    encode i = .wireByte b ∧ i.wf = true := by
  unfold decodeByte at h
  split_ifs at h with h1 h2
  · cases h; exact ⟨h1 ▸ rfl, rfl⟩
  · cases h; exact ⟨h2 ▸ rfl, rfl⟩

theorem wf_escUnknown_iff {f : Byte} :
    (Instr.escUnknown f).wf = true ↔ f ≠ 0x63#8 ∧ f ≠ 0x67#8 ∧ f ≠ 0x6E#8 := by
  simp [Instr.wf, Instr.knownFollows]

theorem decode_encode_escUnknown {f : Byte} (h : (Instr.escUnknown f).wf = true) :
    decode (encode (.escUnknown f)) = .ok (.escUnknown f) := by
  obtain ⟨h63, h67, h6E⟩ := wf_escUnknown_iff.1 h
  simp [encode, decode, decodePair, escByte, h63, h67, h6E]

theorem encode_of_decodePair {a f : Byte} {i : Instr} (h : decodePair a f = .ok i) :
    encode i = .escapePair a f ∧ i.wf = true := by
  unfold decodePair at h
  split_ifs at h with ha h63 h67 h6E <;> cases h <;> subst ha
  · exact ⟨h63 ▸ rfl, rfl⟩
  · exact ⟨h67 ▸ rfl, rfl⟩
  · exact ⟨h6E ▸ rfl, rfl⟩
  · exact ⟨rfl, wf_escUnknown_iff.2 ⟨h63, h67, h6E⟩⟩

/-! ### Packets (R97) -/

theorem hiByte_append_loByte (x : U16) : hiByte x ++ loByte x = x :=
  (BitVec.extractLsb'_append_extractLsb'_eq_extractLsb' rfl).trans BitVec.extractLsb'_eq_self

@[simp] theorem loByte_append (hi lo : Byte) : loByte (hi ++ lo) = lo := BitVec.extractLsb'_append_eq_right

/-- The codes 0xB600..0xB6FF are those with the high byte 0xB6. -/
theorem sensorFaultCode_iff (hi lo : Byte) : (hi ++ lo : U16) &&& 0xFF00#16 = 0xB600#16 ↔ hi = 0xB6#8 := by
  have hmask : (hi ++ lo : U16) &&& 0xFF00#16 = hi ++ 0x00#8 := by
    rw [show (0xFF00#16 : U16) = 0xFF#8 ++ 0x00#8 from rfl, BitVec.and_append, BitVec.and_zero]
    exact congrArg (· ++ 0x00#8) BitVec.and_allOnes
  rw [hmask, show (0xB600#16 : U16) = 0xB6#8 ++ 0x00#8 from rfl, BitVec.append_left_inj]

theorem wf_msgUnhandled_iff {code : U16} {d : U32} :
    (Instr.msgUnhandled code d).wf = true ↔ code ∉ Instr.exactCodes ∧ code &&& 0xFF00#16 ≠ 0xB600#16 := by
  simp [Instr.wf]

theorem decodePacket_sensorFault {code : U16} (h : code &&& 0xFF00#16 = 0xB600#16) (d : U32) :
    decodePacket code d = .msgSensorFault (loByte code) d := by
  simp [decodePacket, familyOf, h]

theorem familyOf_unhandled {code : U16} (hexact : code ∉ Instr.exactCodes)
    (hB6 : code &&& 0xFF00#16 ≠ 0xB600#16) : familyOf code = none := by
  unfold familyOf
  rw [if_neg hB6]
  split
  case h_14 => rfl
  all_goals next e => exact absurd e (toNat_ne_of_notMem hexact _ (by decide))

theorem decodePacket_unhandled {code : U16} {d : U32} (h : (Instr.msgUnhandled code d).wf = true) :
    decodePacket code d = .msgUnhandled code d := by
  obtain ⟨hexact, hB6⟩ := wf_msgUnhandled_iff.1 h
  rw [decodePacket, familyOf_unhandled hexact hB6]

theorem encode_decodePacket (code : U16) (d : U32) :
    encode (decodePacket code d) = .packet code d ∧ (decodePacket code d).wf = true := by
  by_cases hB6 : code &&& 0xFF00#16 = 0xB600#16
  · have hhi : hiByte code = 0xB6#8 := (sensorFaultCode_iff _ (loByte code)).1 (by rwa [hiByte_append_loByte])
    rw [decodePacket_sensorFault hB6, encode, ← hhi, hiByte_append_loByte]
    exact ⟨rfl, rfl⟩
  · by_cases hexact : code ∈ Instr.exactCodes
    · simp only [Instr.exactCodes, List.mem_cons, List.not_mem_nil, or_false] at hexact
      obtain rfl | rfl | rfl | rfl | rfl | rfl | rfl | rfl | rfl | rfl | rfl | rfl | rfl := hexact <;> exact ⟨rfl, rfl⟩
    · have hwf : (Instr.msgUnhandled code d).wf = true := wf_msgUnhandled_iff.2 ⟨hexact, hB6⟩
      rw [decodePacket_unhandled hwf]
      exact ⟨rfl, hwf⟩

/-! ### Decoding and encoding -/

/-- Settles O1: per row of the table. A port row's fields stand where its layout has them; the two "any other" rows fall
through the decoder's tests, which is what their well-formedness says. -/
theorem encodedInstructionDecodesToItself : Obligations.EncodedInstructionDecodesToItself := by
  intro i hwf
  cases i with
  | reset => exact portRow_reset.decode_encode 0#0
  | rxByte b => exact portRow_rxByte.decode_encode b
  | tick n => exact portRow_tick.decode_encode n
  | enqueue t c d => exact decode_encode_enqueue t c d
  | setBathTime m => exact portRow_setBathTime.decode_encode m
  | setBathTemp c => exact portRow_setBathTemp.decode_encode c
  | setMaxBathTemp c => exact portRow_setMaxBathTemp.decode_encode c
  | setHumStep n => exact portRow_setHumStep.decode_encode n
  | setHumPct p => exact portRow_setHumPct.decode_encode p
  | setLight on => simpa only [getLsbD_zero_bitField] using portRow_setLight.decode_encode (bitField on)
  | setHeater on => simpa only [getLsbD_zero_bitField] using portRow_setHeater.decode_encode (bitField on)
  | escUnknown f => exact decode_encode_escUnknown hwf
  | msgSensorFault lo d =>
    have hcode : (0xB6#8 ++ lo : U16) &&& 0xFF00#16 = 0xB600#16 := (sensorFaultCode_iff _ lo).2 rfl
    rw [encode, decode, decodePacket_sensorFault hcode, loByte_append]
  | msgUnhandled code d => rw [encode, decode, decodePacket_unhandled hwf]
  | _ => rfl

/-- Settles O2: per format. -/
theorem decodedInstructionEncodesBack : Obligations.DecodedInstructionEncodesBack := by
  intro e i h
  cases e with
  | portWord w => exact encode_of_decodePort h
  | wireByte b => exact encode_of_decodeByte h
  | escapePair a f => exact encode_of_decodePair h
  | packet code d => cases h; exact encode_decodePacket code d

/-- Settles O3: each word is the encoding of the instruction it stands for. -/
theorem writtenWordsDecode : Obligations.WrittenWordsDecode :=
  have roundTrip := encodedInstructionDecodesToItself
  ⟨roundTrip .reset rfl, roundTrip (.rxByte 0x98#8) rfl, roundTrip (.tick 3#16) rfl,
    roundTrip (.enqueue 0x07#8 0x4002#16 0x5E#32) rfl, roundTrip (.setHeater true) rfl, roundTrip .endMarker rfl,
    roundTrip .escStartMarker rfl, roundTrip (.msgRelayCoil 0x3#32) rfl,
    roundTrip (.msgSensorFault 0xFF#8 0x10000000#32) rfl⟩

end Sys2Proof

/-! # A step: what it runs, what it refuses, and its outputs -/

namespace Sys2Proof.Machine

open Sys2Proof Sys2Proof.Statements

theorem step_ok {s : State} {op : PortOp} {rest : List PortOp} {i : Instr} (h : s.inputs = op :: rest)
    (hd : decode (.portWord op.word) = .ok i) : step s = exec i (s.take op rest) := by
  rw [step, fetch_ok h hd]

theorem step_error {s : State} {op : PortOp} {rest : List PortOp} {r : Reject} (h : s.inputs = op :: rest)
    (hd : decode (.portWord op.word) = .error r) : step s = .next ((s.take op rest).refuse (rejectReason r)) := by
  rw [step, fetch_error h hd]

/-- Settles O5: the port gives the oldest operation decoded, with its timestamp latched. -/
theorem stepRunsTheDecodedOperation : Obligations.StepRunsTheDecodedOperation :=
  ⟨fun _ _ _ _ h hd => step_ok h hd, fun s h => by rw [step, fetch_nil h]⟩

/-- Settles O4: the decoder rejects such a word with the reason, and the step records that reason only. -/
theorem reservedWordsAreRefused : Obligations.ReservedWordsAreRefused :=
  fun _ _ _ h => ⟨fun hop => step_error h (decodePort_badOp hop),
    fun _ _ hmem hop hw => step_error h (decodePort_badOperand hmem hop hw)⟩

/-! ### The output histories (R109, R285, R351) -/

/-- Each output history of `t` is that of `s` with, at most, new records at its end. -/
def State.OutputsExtend (s t : State) : Prop := s.events <+: t.events ∧ s.diags <+: t.diags ∧ s.txOut <+: t.txOut

theorem State.OutputsExtend.refl (s : State) : s.OutputsExtend s :=
  ⟨List.prefix_rfl, List.prefix_rfl, List.prefix_rfl⟩

theorem State.OutputsExtend.trans {s t u : State} (h : s.OutputsExtend t) (k : t.OutputsExtend u) :
    s.OutputsExtend u := by
  obtain ⟨he, hd, ht⟩ := h
  obtain ⟨ke, kd, kt⟩ := k
  exact ⟨he.trans ke, hd.trans kd, ht.trans kt⟩

theorem ReceiveKeeps.outputsExtend {s t : State} (k : ReceiveKeeps s t) : s.OutputsExtend t := by
  obtain ⟨e, he⟩ := k.events
  obtain ⟨d, hd⟩ := k.diags
  exact ⟨⟨e, he.symm⟩, ⟨d, hd.symm⟩, k.txOut ▸ List.prefix_rfl⟩

theorem CommandKeeps.outputsExtend {c : Config} {s t : State} (k : CommandKeeps c s t) : s.OutputsExtend t := by
  obtain ⟨e, he⟩ := k.events
  exact ⟨⟨e, he.symm⟩, k.diags ▸ List.prefix_rfl, k.txOut ▸ List.prefix_rfl⟩

theorem rxByteBody_outputsExtend (c : Config) (b : Byte) (s : State) : s.OutputsExtend (rxByteBody c b s) := by
  obtain ⟨_, _, hk⟩ := assemble_keeps c b (tailUpdate c b { s with tLastRx := some s.now })
  exact hk.outputsExtend

theorem tickBody_outputsExtend (c : Config) (n : U16) (s : State) : s.OutputsExtend (tickBody c n s) := by
  obtain ⟨_, _, ev, u, rfl, -, e | ⟨f, _, _, -, -, -, -, -, e⟩⟩ := tickBody_cases c n s <;> rw [e]
  · exact ⟨List.prefix_append _ ev, List.prefix_rfl, List.prefix_rfl⟩
  · exact ⟨List.prefix_append _ ev, List.prefix_rfl, List.prefix_append _ [f]⟩

theorem outputsExtend_keptByParts (s₀ : State) : KeptByParts s₀.OutputsExtend where
  take _ _ _ h := h
  refuse _ _ h := h
  noteOp _ _ h := h
  reset _ _ h := h
  rxByte b s _ h := h.trans (rxByteBody_outputsExtend Config.chip b s)
  tick n s _ h := h.trans (tickBody_outputsExtend Config.chip n s)
  command _ _ _ hc h := h.trans hc.outputsExtend

/-- Settles O56: every part of a step only appends to the output histories. -/
theorem outputHistoriesOnlyGrow : Obligations.OutputHistoriesOnlyGrow :=
  fun s _ h => (outputsExtend_keptByParts s).step (.refl s) h

end Sys2Proof.Machine

/-! # The CRC (40_crc.md R131, R133, R138) and the check it serves (R197) -/

namespace Sys2Proof.Machine

open Sys2Proof Sys2Proof.Statements

/-! ### A byte in the low and in the high half of the register -/

theorem setWidth_eq_zero_append (b : Byte) : b.setWidth 16 = 0#8 ++ b := BitVec.setWidth_eq_append (by decide)

theorem setWidth_shiftLeft_eight (b : Byte) : b.setWidth 16 <<< 8 = b ++ 0#8 := by
  rw [setWidth_eq_zero_append, BitVec.shiftLeft_eq_concat_of_lt (by decide), BitVec.extractLsb'_append_eq_right]
  rfl

/-! ### The bit-serial form (R133) -/

/-- Data XORed into the register before a shift may as well be fed as the serial bit its top bit is, the rest of it
being XORed in after the shift. -/
theorem crcShift_xor (c m : U16) : crcShift (c ^^^ m) = crcSerialBit c (m.getLsbD 15) ^^^ (m <<< 1) := by
  rw [crcShift, crcSerialBit, BitVec.getLsbD_xor, BitVec.shiftLeft_xor_distrib]
  split
  · ac_rfl
  · rfl

/-- The last `n` bits of a byte fed serially are `n` shifts of the register with these bits XORed in at its top. -/
theorem crcSerialBits_eq (b : Byte) : ∀ {n : Nat} (c : U16), n ≤ 8 →
    crcSerialBits n c b = crcShifts n (c ^^^ (b.setWidth 16 <<< (16 - n)))
  | 0, c, _ => by simp [crcSerialBits, crcShifts]
  | n + 1, c, h => by
    have hbit : (b.setWidth 16 <<< (16 - (n + 1))).getLsbD 15 = b.getLsbD n := by
      simp [show 15 - (15 - n) = n by omega]
    have hrest : b.setWidth 16 <<< (16 - (n + 1)) <<< 1 = b.setWidth 16 <<< (16 - n) := by
      rw [← BitVec.shiftLeft_add, show 16 - (n + 1) + 1 = 16 - n by omega]
    rw [crcSerialBits, crcShifts, crcShift_xor, hbit, hrest, crcSerialBits_eq b _ (by omega)]

/-- Settles O40: byte for byte the two registers agree. -/
theorem bitSerialCrcAgrees : Obligations.BitSerialCrcAgrees := by
  intro bytes
  have hbyte : crcSerialBits 8 = crcByte := funext fun c => funext fun b => crcSerialBits_eq b c (Nat.le_refl 8)
  rw [crc16Serial, hbyte, crc16]

/-! ### The residue of a stamped content (R131) -/

theorem crcShift_of_top_clear {c : U16} (h : c.getLsbD 15 = false) : crcShift c = c <<< 1 := by
  rw [crcShift, h]
  rfl

/-- As long as only zeros leave the register, the polynomial is not XORed in. -/
theorem crcShifts_of_top_clear : ∀ {n : Nat} {c : U16}, (∀ i < n, c.getLsbD (15 - i) = false) →
    crcShifts n c = c <<< n
  | 0, c, _ => by simp [crcShifts]
  | n + 1, c, h => by
    have hnext : ∀ i < n, (c <<< 1).getLsbD (15 - i) = false := fun i hi => by
      rw [BitVec.getLsbD_shiftLeft, show 15 - i - 1 = 15 - (i + 1) by omega, h (i + 1) (by omega), Bool.and_false]
    rw [crcShifts, crcShift_of_top_clear (h 0 (by omega)), crcShifts_of_top_clear hnext, ← BitVec.shiftLeft_add,
      Nat.add_comm]

/-- A register below 256 is moved into the high byte. -/
theorem crcShifts_eight_setWidth (b : Byte) : crcShifts 8 (b.setWidth 16) = b.setWidth 16 <<< 8 :=
  crcShifts_of_top_clear fun i hi => by
    rw [BitVec.getLsbD_setWidth, b.getLsbD_of_ge (15 - i) (by omega), Bool.and_false]

/-- The CRC's high byte cancels the register's, and the shifts bring up its low byte. -/
theorem crcByte_hiByte (c : U16) : crcByte c (hiByte c) = (loByte c).setWidth 16 <<< 8 := by
  have hlow : c ^^^ ((hiByte c).setWidth 16 <<< 8) = (loByte c).setWidth 16 := by
    calc c ^^^ ((hiByte c).setWidth 16 <<< 8)
        = (hiByte c ++ loByte c) ^^^ (hiByte c ++ 0#8) := by rw [hiByte_append_loByte, setWidth_shiftLeft_eight]
      _ = 0#8 ++ loByte c := by rw [BitVec.xor_append, BitVec.xor_self, BitVec.xor_zero]
      _ = (loByte c).setWidth 16 := (setWidth_eq_zero_append _).symm
  rw [crcByte, hlow, crcShifts_eight_setWidth]

/-- The low byte of the CRC, now at the top of the register, cancels in turn. -/
theorem foldl_crcByte_crcField (c : U16) : (crcField c).foldl crcByte c = 0#16 := by
  have hlo : crcByte ((loByte c).setWidth 16 <<< 8) (loByte c) = 0#16 := by
    rw [crcByte, BitVec.xor_self]; rfl
  rw [← hlo, ← crcByte_hiByte]
  rfl

/-- Settles O41: the content leaves the register at its CRC, which the CRC's own two bytes then clear. -/
theorem crcOfStampedContentIsZero : Obligations.CrcOfStampedContentIsZero :=
  fun bytes => by rw [crc16_append, foldl_crcByte_crcField]

/-! ### Error detection (R138) -/

/-- Bit 0 of the polynomial is set: a shift keeps the bit it shifts out. -/
theorem crcShift_getLsbD_zero (c : U16) : (crcShift c).getLsbD 0 = c.getLsbD 15 := by
  have hpoly : crcPoly.getLsbD 0 = true := rfl
  cases h : c.getLsbD 15 <;> rw [crcShift, h] <;> simp [hpoly]

theorem crcShift_injective : Function.Injective crcShift := by
  intro c d h
  have htop : c.getLsbD 15 = d.getLsbD 15 := by rw [← crcShift_getLsbD_zero, h, crcShift_getLsbD_zero]
  have hshift : c <<< 1 = d <<< 1 := by
    rw [crcShift, crcShift, htop] at h
    split at h
    · exact (BitVec.xor_left_inj _).1 h
    · exact h
  refine BitVec.eq_of_getLsbD_eq fun i hi => ?_
  by_cases hi15 : i = 15
  · rw [hi15, htop]
  · have hbit := congrArg (·.getLsbD (i + 1)) hshift
    simpa [show i + 1 < 16 by omega, hi] using hbit

theorem crcShifts_injective : ∀ n, Function.Injective (crcShifts n)
  | 0 => fun _ _ h => h
  | n + 1 => (crcShifts_injective n).comp crcShift_injective

theorem crcByte_left_injective (b : Byte) : Function.Injective (crcByte · b) :=
  fun _ _ h => (BitVec.xor_left_inj _).1 (crcShifts_injective 8 h)

theorem crcByte_right_injective (c : U16) : Function.Injective (crcByte c) := by
  intro x y h
  have hhigh : x.setWidth 16 <<< 8 = y.setWidth 16 <<< 8 := (BitVec.xor_right_inj _).1 (crcShifts_injective 8 h)
  rwa [setWidth_shiftLeft_eight, setWidth_shiftLeft_eight, BitVec.append_left_inj] at hhigh

theorem foldl_crcByte_injective : ∀ l : List Byte, Function.Injective (l.foldl crcByte)
  | [] => fun _ _ h => h
  | b :: l => (foldl_crcByte_injective l).comp (crcByte_left_injective b)

/-- Two contents that differ in one byte have different CRCs. -/
theorem crc16_ne_of_byte_ne (pre post : List Byte) {x y : Byte} (h : x ≠ y) :
    crc16 (pre ++ [x] ++ post) ≠ crc16 (pre ++ [y] ++ post) := by
  simp only [crc16_append]
  exact fun e => h (crcByte_right_injective _ (foldl_crcByte_injective post e))

/-- DECODE's CRC check (R197) of a packet split into content and CRC field, when the CRC is not the content's. -/
theorem checkPacket_crcMismatch {c : Config} {content : List Byte} {r : U16}
    (hlen : badContentLength c content = false) (hr : crc16 content ≠ r) (s : State) :
    checkPacket c (content ++ crcField r) s =
      s.report .crcMismatch ((r.setWidth 32 <<< 16) ||| (crc16 content).setWidth 32) := by
  have hfield : be16 (byteAt (content ++ crcField r) content.length)
      (byteAt (content ++ crcField r) (content.length + 1)) = r := by
    simpa [byteAt, crcField, be16, hiByte, loByte] using hiByte_append_loByte r
  have htake : (content ++ crcField r).length - 2 = content.length := by simp [crcField]
  have hlast : (content ++ crcField r).length - 1 = content.length + 1 := by simp [crcField]
  have hshort : ¬ (content ++ crcField r).length < 2 := by simp [crcField]
  unfold checkPacket
  rw [if_neg hshort]
  simp only [htake, hlast, hfield, List.take_left']
  simp [hlen, hr]

theorem badContentLength_eight {content : List Byte} (h : content.length = 8) (c : Config) :
    badContentLength c content = false := by
  simp [badContentLength, h]

/-- Settles O42: the changed content has another CRC, or the CRC field another value; either way the check compares
two different values. -/
theorem corruptedPacketFailsTheCrc : Obligations.CorruptedPacketFailsTheCrc := by
  constructor
  · intro pre post x y s hxy hlen
    have h8 : (pre ++ [y] ++ post).length = 8 := by simp; omega
    exact checkPacket_crcMismatch (badContentLength_eight h8 _) (crc16_ne_of_byte_ne pre post hxy.symm) s
  · intro content r s h8 hr
    exact checkPacket_crcMismatch (badContentLength_eight h8 _) hr.symm s

end Sys2Proof.Machine

/-! # Escaping and unescaping (41_escape.md R151, R154, R156, R157, R159) -/

namespace Sys2Proof.Machine

open Sys2Proof Sys2Proof.Statements

/-! ### An escape pair: what it puts out, and the row that it runs -/

@[simp] theorem unescapePair_endMarker (s : State) : unescapePair 0x63#8 s = s.outUnescaped 0x9C#8 := rfl

@[simp] theorem unescapePair_startMarker (s : State) : unescapePair 0x67#8 s = s.outUnescaped 0x98#8 := rfl

@[simp] theorem unescapePair_escape (s : State) : unescapePair 0x6E#8 s = s.outUnescaped 0x91#8 := rfl

theorem unescapePair_unknown {f : Byte} (hEnd : f ≠ 0x63#8) (hStart : f ≠ 0x67#8) (hEsc : f ≠ 0x6E#8) (s : State) :
    unescapePair f s = (s.outUnescaped 0x91#8).report .unknownEscape (f.setWidth 32) := by
  simp [unescapePair, hEnd, hStart, hEsc]

theorem exec_escEndMarker (s : State) : exec .escEndMarker s = .next (unescapePair 0x63#8 s) := rfl

theorem exec_escStartMarker (s : State) : exec .escStartMarker s = .next (unescapePair 0x67#8 s) := rfl

theorem exec_escEscape (s : State) : exec .escEscape s = .next (unescapePair 0x6E#8 s) := rfl

theorem exec_escUnknown (f : Byte) (s : State) : exec (.escUnknown f) s = .next (unescapePair f s) := rfl

/-- Whichever row an escape pair decodes to, its meaning is what ESC_DECODE does with the pair's follow byte. -/
theorem exec_of_decode_escapePair {f : Byte} {i : Instr} (h : decode (.escapePair escByte f) = .ok i) (s : State) :
    exec i s = .next (unescapePair f s) := by
  simp only [decode, decodePair, if_true, Except.ok.injEq] at h
  subst h
  split_ifs with hEnd hStart hEsc
  · exact hEnd ▸ exec_escEndMarker s
  · exact hStart ▸ exec_escStartMarker s
  · exact hEsc ▸ exec_escEscape s
  · exact exec_escUnknown f s

/-! ### The beginning of an escaped sequence -/

@[simp] theorem unescape_nil (s : State) : unescape [] s = s := by simp [unescape]

theorem unescape_cons_of_ne {b : Byte} (h : b ≠ escByte) (rest : List Byte) (s : State) :
    unescape (b :: rest) s = unescape rest (s.outUnescaped b) := by
  cases rest with
  | nil => simp [unescape, h]
  | cons f rest => simp [unescape, h]

@[simp] theorem unescape_pair (f : Byte) (rest : List Byte) (s : State) :
    unescape (escByte :: f :: rest) s = unescape rest (unescapePair f s) := by
  simp [unescape]

@[simp] theorem unescape_trailing (s : State) : unescape [escByte] s = unescapeTrailing s := by simp [unescape]

/-- Settles O8: each clause is one of the rules above, an escape pair's by the row it decodes to. -/
theorem unescapingRunsTheEscapeRows : Obligations.UnescapingRunsTheEscapeRows := by
  refine ⟨fun f rest s t i hdecode hexec => ?_, fun b rest s h => unescape_cons_of_ne h rest s, unescape_nil,
    unescape_trailing⟩
  have ht : Host.Outcome.next (unescapePair f s) = .next t := (exec_of_decode_escapePair hdecode s).symm.trans hexec
  obtain rfl := Host.Outcome.next.inj ht
  exact unescape_pair f rest s

/-- Settles O17: each row puts out what its pair does; the three escapes are closed values. -/
theorem escapePairsPutOutTheirByte : Obligations.EscapePairsPutOutTheirByte := by
  refine fun s => ⟨exec_escEndMarker s, exec_escStartMarker s, exec_escEscape s, rfl, rfl, rfl,
    fun f hEnd hStart hEsc => ?_⟩
  rw [exec_escUnknown, unescapePair_unknown hEnd hStart hEsc]
  rfl

/-! ### Unescaping what was escaped (R159) -/

/-- A byte is escaped as a known pair that puts it out again, or stands for itself and is not the escape marker. -/
theorem escEncodeByte_cases (b : Byte) :
    (∃ f, escEncodeByte b = [escByte, f] ∧ ∀ s, unescapePair f s = s.outUnescaped b) ∨
    (b ≠ escByte ∧ escEncodeByte b = [b]) := by
  unfold escEncodeByte
  split_ifs with hEnd hStart hEsc
  · exact .inl ⟨0x63#8, rfl, hEnd ▸ unescapePair_endMarker⟩
  · exact .inl ⟨0x67#8, rfl, hStart ▸ unescapePair_startMarker⟩
  · exact .inl ⟨0x6E#8, rfl, hEsc ▸ unescapePair_escape⟩
  · exact .inr ⟨hEsc, rfl⟩

theorem unescape_escEncodeByte_append (b : Byte) (rest : List Byte) (s : State) :
    unescape (escEncodeByte b ++ rest) s = unescape rest (s.outUnescaped b) := by
  obtain ⟨f, hpair, hout⟩ | ⟨hne, hself⟩ := escEncodeByte_cases b
  · rw [hpair, ← hout s]
    exact unescape_pair f rest s
  · rw [hself]
    exact unescape_cons_of_ne hne rest s

/-- Settles O38, by induction on the sequence: each byte's escape puts out that byte. -/
theorem unescapeInvertsEscape : Obligations.UnescapeInvertsEscape := by
  intro l
  induction l with
  | nil => intro s; simp
  | cons b l ih =>
    intro s
    rw [escEncode_cons, unescape_escEncodeByte_append, ih]
    simp [State.outUnescaped]

end Sys2Proof.Machine

/-! # The frame assembler (42_frame_assembler.md R170 to R181)

First what an accepted RX_BYTE does before the assembler, then the assembler's rules for each kind of byte, then R179 and
R181, and at the end the frame that closes with a good packet. -/

namespace Sys2Proof.Machine

open Sys2Proof Sys2Proof.Statements

/-! ### The receipt of a byte (R170, R171, R273) -/

theorem pushHistory_eq_lastSix (hist : List Byte) (b : Byte) : pushHistory hist b = lastSix (hist ++ [b]) := by
  unfold pushHistory lastSix
  split_ifs with h
  · rfl
  · rw [Nat.sub_eq_zero_of_le (Nat.not_lt.1 h), List.drop_zero]

/-- T_LAST_OP, T_LAST_RX and TAIL_UPDATE together are the receipt of the statements. -/
theorem tailUpdate_noteOp (b : Byte) (s : State) :
    tailUpdate Config.chip b { s.noteOp with tLastRx := some s.now } = afterReceipt b s := by
  have hflag : ∀ hist, tailFlag Config.chip hist = decide (hist = Config.chip.tailSig.toList) := fun hist => by
    rw [Bool.eq_iff_iff, tailFlag_iff, decide_eq_true_iff]
  unfold tailUpdate afterReceipt
  rw [hflag, State.noteOp, pushHistory_eq_lastSix]

theorem exec_rxByte_onTime {s : State} (h : s.OnTime) (b : Byte) :
    exec (.rxByte b) s = .next (assemble Config.chip b (afterReceipt b s)) := by
  rw [← tailUpdate_noteOp]
  exact congrArg Host.Outcome.next (accept_onTime h)

theorem exec_startMarker (s : State) : exec .startMarker s = .next (openFrame s) := rfl

theorem exec_endMarker (s : State) : exec .endMarker s = .next (endFrame Config.chip s) := rfl

/-! ### The assembler's rules (R172 to R178) -/

@[simp] theorem assemble_start (c : Config) (s : State) : assemble c startByte s = openFrame s := if_pos rfl

@[simp] theorem assemble_end (c : Config) (s : State) : assemble c endByte s = endFrame c s := by simp [assemble]

theorem assemble_plain {b : Byte} (hstart : b ≠ startByte) (hend : b ≠ endByte) (c : Config) (s : State) :
    assemble c b s = plainByte c b s := by
  simp [assemble, hstart, hend]

theorem endFrame_waiting {s : State} (h : s.asmState = .waiting) (c : Config) : endFrame c s = s := by
  simp [endFrame, h]

/-- A frame of at most 6 bytes, both markers counted, is dropped without a diagnostic (R174). -/
theorem endFrame_short {s : State} (h : s.asmState = .inFrame) (hlen : s.fbuf.length + 1 ≤ 6) (c : Config) :
    endFrame c s = idle s := by
  simp [endFrame, h, closeFrame, dropFrame, idle, show ¬ 6 < s.fbuf.length + 1 by omega]

theorem endFrame_long {s : State} (h : s.asmState = .inFrame) (hlen : 6 < s.fbuf.length + 1) (c : Config) :
    endFrame c s = decodeFrame c (s.fbuf ++ [endByte]) (idle s) := by
  simp [endFrame, h, closeFrame, dropFrame, idle, hlen]

theorem plainByte_waiting {s : State} (h : s.asmState = .waiting) (c : Config) (b : Byte) : plainByte c b s = s := by
  simp [plainByte, h]

theorem plainByte_room {c : Config} {s : State} (h : s.asmState = .inFrame) (hroom : s.fbuf.length ≠ c.frameMax - 1)
    (b : Byte) : plainByte c b s = { s with fbuf := s.fbuf ++ [b] } := by
  simp [plainByte, h, hroom]

theorem plainByte_full {c : Config} {s : State} (h : s.asmState = .inFrame) (hfull : s.fbuf.length = c.frameMax - 1)
    (b : Byte) : plainByte c b s = (idle s).report .frameTooLong 0#32 := by
  simp [plainByte, h, hfull, dropFrame, idle]

theorem exec_rxByte_start {s : State} (h : s.OnTime) :
    exec (.rxByte startByte) s = exec .startMarker (afterReceipt startByte s) := by
  rw [exec_rxByte_onTime h, assemble_start, exec_startMarker]

theorem exec_rxByte_end {s : State} (h : s.OnTime) :
    exec (.rxByte endByte) s = exec .endMarker (afterReceipt endByte s) := by
  rw [exec_rxByte_onTime h, assemble_end, exec_endMarker]

/-- Settles O14: the marker's row is the opening of a frame, whatever was open. -/
theorem startMarkerOpensAFrame : Obligations.StartMarkerOpensAFrame := exec_startMarker

/-- Settles O15: the three cases of the end marker's rule. -/
theorem endMarkerClosesTheFrame : Obligations.EndMarkerClosesTheFrame := fun _ =>
  ⟨fun h => congrArg Host.Outcome.next (endFrame_waiting h _),
    fun h hlen => congrArg Host.Outcome.next (endFrame_short h hlen _),
    fun h hlen => congrArg Host.Outcome.next (endFrame_long h hlen _)⟩

/-- Settles O6: after the receipt the assembler runs the marker's own row. -/
theorem rxByteRunsTheMarkerRows : Obligations.RxByteRunsTheMarkerRows :=
  fun _ h => ⟨exec_rxByte_start h, exec_rxByte_end h⟩

/-- Settles O13: what the assembler does with the byte leaves the registers of the receipt alone. -/
theorem rxByteNotesThenAssembles : Obligations.RxByteNotesThenAssembles := by
  rintro b s t h rfl
  obtain ⟨a, f, hk⟩ := assemble_keeps Config.chip b (afterReceipt b s)
  refine ⟨exec_rxByte_onTime h b, hk.tLastRx, hk.rxHist, ?_⟩
  rw [hk.tailArmed, hk.rxHist]
  exact decide_eq_true_iff

/-- Settles O16: while WAITING both rules that are left drop the byte; while IN_FRAME a plain byte is appended, or finds
the buffer full. -/
theorem plainByteIsDroppedOrAppended : Obligations.PlainByteIsDroppedOrAppended := by
  intro b s h hstart
  rw [exec_rxByte_onTime h]
  refine ⟨fun hw => congrArg Host.Outcome.next ?_, fun hend hf hroom => congrArg Host.Outcome.next ?_,
    fun hend hf hfull => congrArg Host.Outcome.next ?_⟩
  · by_cases hend : b = endByte
    · rw [hend, assemble_end, endFrame_waiting (s := afterReceipt endByte s) hw]
    · rw [assemble_plain hstart hend, plainByte_waiting (s := afterReceipt b s) hw]
  · rw [assemble_plain hstart hend, plainByte_room (c := Config.chip) (s := afterReceipt b s) hf hroom]
    rfl
  · rw [assemble_plain hstart hend, plainByte_full (c := Config.chip) (s := afterReceipt b s) hf hfull]
    rfl

/-! ### The assembler's invariant (R179) -/

theorem assemblerOk_of_eq {c : Config} {s t : State} (h : s.AssemblerOk c) (hstate : t.asmState = s.asmState)
    (hbuf : t.fbuf = s.fbuf) : t.AssemblerOk c := by
  simpa only [State.AssemblerOk, hstate, hbuf] using h

theorem assemblerOk_of_idle {c : Config} {s : State} (hstate : s.asmState = .waiting) (hbuf : s.fbuf = []) :
    s.AssemblerOk c :=
  ⟨fun _ => hbuf, fun h => nomatch hstate.symm.trans h⟩

theorem assemblerOk_openFrame {c : Config} (hmax : 2 ≤ c.frameMax) (s : State) : (openFrame s).AssemblerOk c :=
  ⟨fun h => (nomatch h), fun _ => ⟨rfl, fun _ hx => (nomatch hx), Nat.le_sub_of_add_le hmax⟩⟩

/-- A byte that is no marker, appended where there is room, leaves the start marker in front and the bound met. -/
theorem assemblerOk_append {c : Config} {s : State} {b : Byte} (h : s.AssemblerOk c) (hf : s.asmState = .inFrame)
    (hstart : b ≠ startByte) (hend : b ≠ endByte) (hroom : s.fbuf.length ≠ c.frameMax - 1) :
    ({ s with fbuf := s.fbuf ++ [b] } : State).AssemblerOk c := by
  obtain ⟨hhead, htail, hlen⟩ := h.2 hf
  refine ⟨fun hw => (nomatch hf.symm.trans hw), fun _ => ?_⟩
  obtain ⟨x, rest, e⟩ : ∃ x rest, s.fbuf = x :: rest := List.exists_cons_of_ne_nil fun e => by simp [e] at hhead
  rw [e] at hhead htail hlen hroom
  rw [e]
  refine ⟨hhead, fun y hy => ?_, ?_⟩
  · obtain hy | rfl := List.mem_append.1 hy |>.imp_right List.mem_singleton.1
    · exact htail y hy
    · exact ⟨hstart, hend⟩
  · simpa using Nat.lt_of_le_of_ne hlen hroom

theorem assemblerOk_assemble {c : Config} (hmax : 2 ≤ c.frameMax) (b : Byte) {s : State} (h : s.AssemblerOk c) :
    (assemble c b s).AssemblerOk c := by
  obtain ⟨-, e⟩ | ⟨-, -, e⟩ | ⟨-, -, -, e⟩ | ⟨-, -, -, e⟩ | ⟨-, -, -, -, e⟩ | ⟨hstart, hend, hf, hroom, e⟩ :=
    assemble_cases c b s <;> rw [e]
  · exact assemblerOk_openFrame hmax s
  · exact h
  · exact assemblerOk_of_idle rfl rfl
  · have hk := ReceiveKeeps.decodeFrame c (s.fbuf ++ [endByte]) (dropFrame s)
    exact assemblerOk_of_idle hk.asmState hk.fbuf
  · exact assemblerOk_of_idle rfl rfl
  · exact assemblerOk_append h hf hstart hend hroom

theorem assemblerOk_keptByParts : KeptByParts (fun s => s.AssemblerOk Config.chip) where
  take _ _ _ h := h
  refuse _ _ h := h
  noteOp _ _ h := h
  reset _ _ _ := assemblerOk_of_idle rfl rfl
  rxByte b s _ h := assemblerOk_assemble (by decide) b (s := tailUpdate Config.chip b { s with tLastRx := some s.now }) h
  tick n s _ h := by
    obtain ⟨se, lp, ev, u, rfl, -, e | ⟨f, rest, t, -, -, -, -, -, e⟩⟩ := tickBody_cases Config.chip n s <;> rw [e] <;>
      exact h
  command _ _ _ hc h := assemblerOk_of_eq h hc.asmState hc.fbuf

/-- Settles O49: only RESET and ASSEMBLE write the assembler's registers. -/
theorem stepKeepsTheAssemblerInvariant : Obligations.StepKeepsTheAssemblerInvariant :=
  fun _ _ hs h => assemblerOk_keptByParts.step hs h

/-! ### Self-synchronisation (R181) -/

/-- Bytes that are no markers are collected in an open frame that has room for them all. -/
theorem assembleAll_body {body : List Byte} (hbody : ∀ b ∈ body, b ≠ startByte ∧ b ≠ endByte) {s : State}
    (hf : s.asmState = .inFrame) (hroom : s.fbuf.length + body.length ≤ Config.chip.frameMax - 1) :
    assembleAll body s = { s with fbuf := s.fbuf ++ body } := by
  induction body generalizing s with
  | nil => simp [assembleAll]
  | cons b body ih =>
    obtain ⟨⟨hstart, hend⟩, hrest⟩ := List.forall_mem_cons.1 hbody
    rw [List.length_cons] at hroom
    have hb : assemble Config.chip b s = { s with fbuf := s.fbuf ++ [b] } := by
      rw [assemble_plain hstart hend, plainByte_room hf (by omega)]
    calc assembleAll (b :: body) s
        = assembleAll body { s with fbuf := s.fbuf ++ [b] } := by rw [← hb]; rfl
      _ = { s with fbuf := s.fbuf ++ b :: body } := by
        rw [ih hrest (by exact hf) (by simp only [List.length_append, List.length_singleton]; omega)]
        simp

/-- Settles O44: the start marker discards what was open, the body is collected behind it, and the end marker closes
exactly that. -/
theorem assemblerSelfSynchronises : Obligations.AssemblerSelfSynchronises := by
  intro body s hbody hmin hmax
  have hroom : (openFrame s).fbuf.length + body.length ≤ Config.chip.frameMax - 1 := by
    change 1 + body.length ≤ 63
    omega
  have hlen : 6 < (startByte :: body).length + 1 := by rw [List.length_cons]; omega
  calc assembleAll (startByte :: body ++ [endByte]) s
      = assemble Config.chip endByte (assembleAll body (openFrame s)) := by
        rw [← assemble_start Config.chip]
        exact List.foldl_append
    _ = endFrame Config.chip { s with asmState := .inFrame, fbuf := startByte :: body } := by
        rw [assemble_end, assembleAll_body hbody rfl hroom]
        rfl
    _ = decodeFrame Config.chip (startByte :: body ++ [endByte]) (idle s) := endFrame_long rfl hlen _

/-! ### The frame that closes with a good packet (R190, R196, R198, R220) -/

/-- The message row of a code and payload is DISPATCH of them. -/
theorem exec_decodePacket (code : U16) (d : U32) (s : State) :
    exec (decodePacket code d) s = .next (dispatch Config.chip code d s) := by
  unfold decodePacket dispatch
  cases familyOf code with
  | none => rfl
  | some f =>
    cases f with
    | fB6 =>
      change Host.Outcome.next (decodeB6 _ (loByte (0xB6#8 ++ loByte code)) _ _) = _
      rw [loByte_append]
      rfl
    | _ => rfl

theorem codeOf_contentBytes (a t : Byte) (code : U16) (d : U32) (extra : List Byte) :
    codeOf (contentBytes a t code d ++ extra) = code :=
  hiByte_append_loByte code

theorem dataOf_contentBytes (a t : Byte) (code : U16) (d : U32) (extra : List Byte) :
    dataOf (contentBytes a t code d ++ extra) = d := by
  have h16 : d.extractLsb' 24 8 ++ d.extractLsb' 16 8 = d.extractLsb' 16 16 :=
    BitVec.extractLsb'_append_extractLsb'_eq_extractLsb' rfl
  have h24 : d.extractLsb' 16 16 ++ d.extractLsb' 8 8 = d.extractLsb' 8 24 :=
    BitVec.extractLsb'_append_extractLsb'_eq_extractLsb' rfl
  have h32 : d.extractLsb' 8 24 ++ d.extractLsb' 0 8 = d.extractLsb' 0 32 :=
    BitVec.extractLsb'_append_extractLsb'_eq_extractLsb' rfl
  calc dataOf (contentBytes a t code d ++ extra)
      = d.extractLsb' 24 8 ++ d.extractLsb' 16 8 ++ d.extractLsb' 8 8 ++ d.extractLsb' 0 8 := rfl
    _ = d := by rw [h16, h24, h32, BitVec.extractLsb'_eq_self]

/-- P_STRICT_LEN = false: a content of eight bytes or more passes the second length check (R196). -/
theorem badContentLength_chip {content : List Byte} (h : 8 ≤ content.length) :
    badContentLength Config.chip content = false := by
  simp [badContentLength, h, show Config.chip.strictLen = false from rfl]

/-- A content that begins with the eight bytes of a packet from the heater's side is dispatched, and the bytes from the
ninth on are ignored (R196, R198). -/
theorem acceptPacket_contentBytes (a : Byte) {type : Byte} (h07 : type ≠ 0x07#8) (h09 : type ≠ 0x09#8) (code : U16)
    (d : U32) (extra : List Byte) (s : State) :
    acceptPacket Config.chip (contentBytes a type code d ++ extra) s = dispatch Config.chip code d s := by
  have hpanel : Config.chip.panelTypes.contains type = false := by
    simp [show Config.chip.panelTypes = [0x07#8, 0x09#8] from rfl, h07, h09]
  rw [acceptPacket, codeOf_contentBytes, dataOf_contentBytes]
  exact if_neg (Bool.eq_false_iff.1 hpanel)

/-- DECODE of an escaped packet with its right CRC: the packet is accepted, with no diagnostic of the unescaping. -/
theorem decodeFrame_stamped {c : Config} {content : List Byte} (h : badContentLength c content = false) (s : State) :
    decodeFrame c (startByte :: escEncode (content ++ crcField (crc16 content)) ++ [endByte]) s =
      acceptPacket c content s.clearUnescaped := by
  have hbody : ∀ l : List Byte, frameBody (startByte :: l ++ [endByte]) = l := fun l => by simp [frameBody]
  unfold decodeFrame
  rw [hbody, unescapeInvertsEscape]
  exact checkPacket_stamped h s.clearUnescaped

/-- The end marker behind an escaped packet with its right CRC: the frame is long enough for DECODE, which accepts it. -/
theorem endFrame_stamped {content : List Byte} (hlen : 8 ≤ content.length) {s : State} (hf : s.asmState = .inFrame)
    (hbuf : s.fbuf = startByte :: escEncode (content ++ crcField (crc16 content))) :
    endFrame Config.chip s = acceptPacket Config.chip content (idle s).clearUnescaped := by
  have hlong : 6 < s.fbuf.length + 1 := by
    have hesc := (escEncode_length (content ++ crcField (crc16 content))).1
    rw [List.length_append] at hesc
    rw [hbuf, List.length_cons]
    omega
  rw [endFrame_long hf hlong, hbuf, decodeFrame_stamped (badContentLength_chip hlen)]

/-- Settles O7: the end marker's row accepts the packet, and its message's row is the dispatch of its code and data. -/
theorem closingByteRunsTheMessage : Obligations.ClosingByteRunsTheMessage := by
  rintro s address type code data extra content h hf hcontent hbuf h07 h09
  have hlen : 8 ≤ content.length := by simp [hcontent]
  calc exec (.rxByte endByte) s
      = .next (endFrame Config.chip (afterReceipt endByte s)) := exec_rxByte_end h
    _ = .next (acceptPacket Config.chip content (idle (afterReceipt endByte s)).clearUnescaped) :=
        congrArg Host.Outcome.next (endFrame_stamped (s := afterReceipt endByte s) hlen hf hbuf)
    _ = .next (dispatch Config.chip code data (idle (afterReceipt endByte s)).clearUnescaped) := by
        rw [hcontent, acceptPacket_contentBytes address h07 h09]
    _ = exec (decodePacket code data) (idle (afterReceipt endByte s)).clearUnescaped := (exec_decodePacket ..).symm

end Sys2Proof.Machine

/-! # The packet codec (43_packet_codec.md R190 to R210)

First the length of an encoded frame, then the outcome of each of DECODE's checks, and at the end a command's frame
through the assembler and DECODE. -/

namespace Sys2Proof.Machine

open Sys2Proof Sys2Proof.Statements

/-! ### The length of an encoded frame (R209) -/

/-- A byte takes one more on the wire exactly if it is reserved (R150, R151). -/
theorem escEncodeByte_length_eq (b : Byte) :
    (escEncodeByte b).length = 1 + if b == 0x91#8 || b == 0x98#8 || b == 0x9C#8 then 1 else 0 := by
  by_cases hEnd : b = 0x9C#8
  · rw [hEnd]; rfl
  by_cases hStart : b = 0x98#8
  · rw [hStart]; rfl
  by_cases hEsc : b = 0x91#8
  · rw [hEsc]; rfl
  simp [escEncodeByte, hEnd, hStart, hEsc]

theorem escEncode_length_eq (l : List Byte) :
    (escEncode l).length = l.length + l.countP (fun b => b == 0x91#8 || b == 0x98#8 || b == 0x9C#8) := by
  induction l with
  | nil => rfl
  | cons b l ih =>
    rw [escEncode_cons, List.length_append, escEncodeByte_length_eq, ih, List.length_cons, List.countP_cons]
    omega

/-- Settles O39: two markers about ten packet bytes, each reserved one of which takes two. -/
theorem encodedFrameHasMarkersOnlyAtItsEnds : Obligations.EncodedFrameHasMarkersOnlyAtItsEnds := by
  intro cmd
  refine ⟨wireFrame_encodeFrame cmd, ?_⟩
  rw [encodeFrame, frameOf, List.length_append, List.length_append, escEncode_length_eq, packetBytes_length,
    List.length_singleton, List.length_singleton]
  omega

/-! ### The outcome of each check (R194 to R200, R358) -/

theorem checkPacket_noCrc {p : List Byte} (h : p.length < 2) (c : Config) (s : State) :
    checkPacket c p s = s.report .frameTooShort 1#32 := if_pos h

theorem checkPacket_shortContent {c : Config} {p : List Byte} (h : 2 ≤ p.length)
    (hbad : badContentLength c (p.take (p.length - 2)) = true) (s : State) :
    checkPacket c p s = s.report .frameTooShort 2#32 := by
  rw [checkPacket, if_neg (Nat.not_lt.2 h)]
  exact if_pos hbad

/-- Two bytes read as a CRC stand in a packet as themselves. -/
theorem crcField_be16 (hi lo : Byte) : crcField (be16 hi lo) = [hi, lo] := by
  have hhi : (hi ++ lo : U16).extractLsb' 8 8 = hi := BitVec.extractLsb'_append_eq_left
  have hlo : (hi ++ lo : U16).extractLsb' 0 8 = lo := loByte_append hi lo
  rw [crcField, be16, hhi, hlo]

/-- A sequence of two bytes or more is its content and the CRC field behind it (R195). -/
theorem content_append_crcField {p : List Byte} (h : 2 ≤ p.length) :
    p.take (p.length - 2) ++ crcField (be16 (byteAt p (p.length - 2)) (byteAt p (p.length - 1))) = p := by
  have hdrop : p.drop (p.length - 2) = [byteAt p (p.length - 2), byteAt p (p.length - 1)] := by
    rw [List.drop_eq_getElem_cons (by omega), show p.length - 2 + 1 = p.length - 1 by omega,
      List.drop_eq_getElem_cons (by omega), show p.length - 1 + 1 = p.length by omega, List.drop_length]
    simp [byteAt, show p.length - 2 < p.length by omega, show p.length - 1 < p.length by omega]
  rw [crcField_be16, ← hdrop, List.take_append_drop]

/-- The direction filter (R200): a packet of a panel type is reported with its type and code, and goes no further. -/
theorem acceptPacket_panel {content : List Byte} (h : byteAt content 1 = 0x07#8 ∨ byteAt content 1 = 0x09#8)
    (s : State) : acceptPacket Config.chip content s =
      s.report .panelTraffic (((byteAt content 1).setWidth 32 <<< 16) ||| (codeOf content).setWidth 32) := by
  have hpanel : Config.chip.panelTypes.contains (byteAt content 1) = true := by
    simpa [show Config.chip.panelTypes = [0x07#8, 0x09#8] from rfl] using h
  exact if_pos hpanel

/-- A record that DECODE's checks report after the unescaping is that of a discarded frame. -/
theorem discarded_of_checkPacket {f : List Byte} {s u : State} {k : DiagCode} {v : U32}
    (hu : u = unescape (frameBody f) s.clearUnescaped)
    (h : checkPacket Config.chip u.unesc u.clearUnescaped = u.clearUnescaped.report k v) :
    decodeFrame Config.chip f s = discarded s u ⟨k, v⟩ := by
  obtain ⟨out, dg, -, happend⟩ := unescape_appends (frameBody f)
  rw [decodeFrame, ← hu, h, hu, happend]
  rfl

/-- Settles O45: the unescaping appends its own records only, and each clause is the outcome of one check. -/
theorem discardedFrameChangesNoRegister : Obligations.DiscardedFrameChangesNoRegister := by
  intro f p content rx s u hu hp hcontent hrx
  have hsplit : 8 ≤ content.length → content ++ crcField rx = u.unesc := fun h8 => by
    have h2 : 2 ≤ p.length := by rw [hcontent, List.length_take] at h8; omega
    rw [hcontent, hrx, content_append_crcField h2, hp]
  refine ⟨?_, fun h2 => ?_, fun h2 h8 => ?_, fun h8 hcrc => ?_, fun h8 hcrc hpanel => ?_⟩
  · obtain ⟨out, dg, hunknown, happend⟩ := unescape_appends (frameBody f)
    exact ⟨dg, by rw [hu, happend], hunknown⟩
  · exact discarded_of_checkPacket hu (checkPacket_noCrc (hp ▸ h2) _ _)
  · have hbad : badContentLength Config.chip content = true := by simp [badContentLength, h8]
    rw [hp] at h2 hcontent
    exact discarded_of_checkPacket hu (checkPacket_shortContent h2 (hcontent ▸ hbad) _)
  · apply discarded_of_checkPacket hu
    rw [← hsplit h8, checkPacket_crcMismatch (badContentLength_chip h8) hcrc]
  · apply discarded_of_checkPacket hu
    have hstamped := checkPacket_stamped (badContentLength_chip h8) u.clearUnescaped
    rw [← hsplit h8, ← hcrc]
    exact hstamped.trans (acceptPacket_panel hpanel _)

/-! ### A command's frame, received (R210) -/

/-- The direction filter of a packet whose content begins with the eight bytes of one from a panel. -/
theorem acceptPacket_panel_contentBytes (a : Byte) {type : Byte} (h : type = 0x07#8 ∨ type = 0x09#8) (code : U16)
    (d : U32) (extra : List Byte) (s : State) :
    acceptPacket Config.chip (contentBytes a type code d ++ extra) s =
      s.report .panelTraffic ((type.setWidth 32 <<< 16) ||| code.setWidth 32) := by
  have htype : byteAt (contentBytes a type code d ++ extra) 1 = type := rfl
  rw [acceptPacket_panel (htype ▸ h), htype, codeOf_contentBytes]

/-- The assembler passes a command's frame on as one, and DECODE finds its content intact. -/
theorem assembleAll_encodeFrame (cmd : Cmd) (s : State) : assembleAll (encodeFrame cmd) s =
    acceptPacket Config.chip (contentBytes 0x40#8 cmd.type cmd.code cmd.data) (idle s).clearUnescaped := by
  have hlen := escEncode_length (packetBytes 0x40#8 cmd.type cmd.code cmd.data)
  rw [packetBytes_length] at hlen
  calc assembleAll (encodeFrame cmd) s
      = decodeFrame Config.chip (encodeFrame cmd) (idle s) :=
        assemblerSelfSynchronises (escEncode (packetBytes _ _ _ _)) s (escEncode_noMarker _) (by omega) (by omega)
    _ = acceptPacket Config.chip (contentBytes 0x40#8 cmd.type cmd.code cmd.data) (idle s).clearUnescaped :=
        decodeFrame_stamped (badContentLength_eight (contentBytes_length ..) _) (idle s)

/-- Settles O43: what DECODE accepts is the command's content, which the direction filter reports or lets through. -/
theorem fedFrameIsDispatched : Obligations.FedFrameIsDispatched := by
  intro cmd s
  rw [assembleAll_encodeFrame, ← List.append_nil (contentBytes ..)]
  split_ifs with hpanel
  · exact acceptPacket_panel_contentBytes 0x40#8 hpanel cmd.code cmd.data [] _
  · obtain ⟨h07, h09⟩ := not_or.1 hpanel
    exact acceptPacket_contentBytes 0x40#8 h07 h09 cmd.code cmd.data [] _

end Sys2Proof.Machine

/-! # The field codec (44_field_codec.md R220 to R251) and the operations that push its payloads

First the bucket rule of the bath time, then the merge rule and the payloads it builds, then the operations that push
them, and at the end the messages. -/

namespace Sys2Proof.Machine

open Sys2Proof Sys2Proof.Statements

/-! ### The bucket rule (R222 to R224) -/

theorem bucket_intCast (x : Nat) : (bucket x : Int) = min (max ((x : Int) / 64 - 1) 0) 7 := by
  simp only [bucket, clamp]
  omega

theorem btDecode_low {raw : BitVec 12} (h : raw.toNat ≤ 63) : (btDecode raw).val = raw.toNat := by
  rw [btDecode, if_pos h]
  exact Nat.min_eq_left (by omega)

theorem btDecode_high {raw : BitVec 12} (h : 63 < raw.toNat) :
    (btDecode raw).val = min (raw.toNat - 4 * (bucket raw.toNat + 1)) 575 := by
  rw [btDecode, if_neg (Nat.not_le.2 h)]
  rfl

theorem btEncode_low {m : Minutes} (h : m.val ≤ 63) : (btEncode m).toNat = m.val := by
  rw [btEncode, if_pos h, BitVec.toNat_ofNat, Nat.mod_eq_of_lt (by omega)]

theorem btEncode_high {m : Minutes} (h : 63 < m.val) :
    (btEncode m).toNat = min (m.val + 4 * (bucket m.val + 1)) 4095 := by
  rw [btEncode, if_neg (Nat.not_le.2 h), BitVec.toNat_ofNat, Nat.mod_eq_of_lt (by omega)]

/-- Settles O46: the model's rule on the natural numbers is the stated one on the integers, because the bucket index
is. -/
theorem bucketRuleAsStated : Obligations.BucketRuleAsStated := by
  refine ⟨fun raw => ⟨btDecode_low, fun h => ?_⟩, fun m => ⟨btEncode_low, fun h => ?_⟩⟩
  · rw [btDecode_high h, ← bucket_intCast]
    omega
  · rw [btEncode_high h, ← bucket_intCast]
    omega

theorem bucket_succ {x : Nat} (h : 63 < x) : bucket x + 1 = min (x / 64) 8 := by
  simp only [bucket, clamp]
  omega

/-- The listed minutes are those that the encoding moves into the next bucket, the last bucket having none after it. -/
theorem bucketMisses_iff (m : Nat) :
    bucketMisses m = true ↔ 63 < m ∧ m < 512 ∧ 64 ≤ m % 64 + 4 * (m / 64) := by
  simp only [bucketMisses, Bool.or_eq_true, Bool.and_eq_true, decide_eq_true_eq]
  omega

/-- Settles O47: a minute that stays in its bucket comes back; one that is moved into the next bucket comes back less
that bucket's four. -/
theorem bucketRoundTripFailsExactlyWhereListed : Obligations.BucketRoundTripFailsExactlyWhereListed := by
  intro m
  have hm : m.val < 576 := m.isLt
  by_cases hlow : m.val ≤ 63
  · have hmiss : bucketMisses m.val ≠ true := fun h => absurd ((bucketMisses_iff _).1 h).1 (Nat.not_lt.2 hlow)
    have hraw := btEncode_low hlow
    rw [if_neg hmiss, btDecode_low (hraw ▸ hlow), hraw]
  · have hhigh : 63 < m.val := Nat.not_le.1 hlow
    have hraw : (btEncode m).toNat = m.val + 4 * (m.val / 64) := by
      rw [btEncode_high hhigh, bucket_succ hhigh]
      omega
    have hraw63 : 63 < (btEncode m).toNat := by omega
    rw [btDecode_high hraw63, bucket_succ hraw63, hraw]
    split_ifs with hmiss <;> rw [bucketMisses_iff] at hmiss <;> omega

/-! ### The merge rule (R244) -/

/-- `mask` covers the `len` bits from `shift` up, and no others. -/
abbrev FieldMask (mask : U32) (shift len : Nat) : Prop :=
  ∀ i < 32, mask.getLsbD i = decide (shift ≤ i ∧ i < shift + len)

section
variable {cache mask value : U32} {shift len : Nat}

theorem getLsbD_mergeField {i : Nat} (hi : i < 32) : (mergeField cache mask value shift).getLsbD i =
    (cache.getLsbD i && !mask.getLsbD i || !decide (i < shift) && value.getLsbD (i - shift)) := by
  simp only [mergeField, BitVec.getLsbD_or, BitVec.getLsbD_and, BitVec.getLsbD_not, BitVec.getLsbD_shiftLeft, hi,
    decide_true, Bool.true_and]

/-- The merged payload's bits in the field are the value's. -/
theorem getLsbD_mergeField_field (hmask : FieldMask mask shift len) {i : Nat} (hi : i < len) (hfit : shift + i < 32) :
    (mergeField cache mask value shift).getLsbD (shift + i) = value.getLsbD i := by
  have hset : mask.getLsbD (shift + i) = true := by rw [hmask _ hfit, decide_eq_true_iff]; omega
  simp [getLsbD_mergeField hfit, hset]

/-- The merged payload's bits outside the field are the cache's. -/
theorem getLsbD_mergeField_other (hmask : FieldMask mask shift len) (hvalue : value.toNat < 2 ^ len) {i : Nat}
    (hi : i < shift ∨ shift + len ≤ i) : (mergeField cache mask value shift).getLsbD i = cache.getLsbD i := by
  by_cases h32 : i < 32
  · have hclear : mask.getLsbD i = false := by rw [hmask i h32, decide_eq_false_iff_not]; omega
    rw [getLsbD_mergeField h32, hclear]
    by_cases hle : i < shift
    · simp [hle]
    · have habove : value.getLsbD (i - shift) = false :=
        Nat.testBit_lt_two_pow (hvalue.trans_le (Nat.pow_le_pow_right (by decide) (by omega)))
      simp [habove]
  · rw [BitVec.getLsbD_of_ge _ _ (by omega), BitVec.getLsbD_of_ge _ _ (by omega)]

/-- The field reads back as the value set. -/
theorem extractLsb'_mergeField_field (hmask : FieldMask mask shift len) (hfit : shift + len ≤ 32) :
    (mergeField cache mask value shift).extractLsb' shift len = value.setWidth len := by
  refine BitVec.eq_of_getLsbD_eq fun i hi => ?_
  rw [BitVec.getLsbD_extractLsb', getLsbD_mergeField_field hmask hi (by omega), BitVec.getLsbD_setWidth]

/-- Every field beside the one set reads as the cache's. -/
theorem extractLsb'_mergeField_other (hmask : FieldMask mask shift len) (hvalue : value.toNat < 2 ^ len)
    {start k : Nat} (hbeside : start + k ≤ shift ∨ shift + len ≤ start) :
    (mergeField cache mask value shift).extractLsb' start k = cache.extractLsb' start k := by
  refine BitVec.eq_of_getLsbD_eq fun i hi => ?_
  rw [BitVec.getLsbD_extractLsb', BitVec.getLsbD_extractLsb', getLsbD_mergeField_other hmask hvalue (by omega)]

/-- A number that fits the field reads back from it. -/
theorem toNat_extractLsb'_mergeField {n : Nat} (hmask : FieldMask mask shift len) (hfit : shift + len ≤ 32)
    (hn : n < 2 ^ len) : ((mergeField cache mask (BitVec.ofNat 32 n) shift).extractLsb' shift len).toNat = n := by
  rw [extractLsb'_mergeField_field hmask hfit, BitVec.setWidth_ofNat_of_le (by omega), BitVec.toNat_ofNat,
    Nat.mod_eq_of_lt hn]

end

/-! ### The payloads that the encode rules build (R245 to R249) -/

section
variable (s : State)

/-- The step field of ENC_HUM_STEP reads back (R248). -/
theorem stepRawOf_encHumStep {n : Nat} (hn : n ≤ 10) : (stepRawOf (encHumStep s n)).toNat = 40 + 8 * n :=
  toNat_extractLsb'_mergeField (by decide) (by decide) (by omega)

theorem humStepOf_encHumStep {n : Nat} (hn : n ≤ 10) : humStepOf (encHumStep s n) = n := by
  rw [humStepOf, stepRawOf_encHumStep s hn, clampInt]
  omega

/-- The lower bound of a percent never acts, and neither does the upper one on six bits (R230). -/
theorem humPctOf_eq (d : U32) : humPctOf d = (pctTgtOf d).toNat := by
  have h : (pctTgtOf d).toNat < 64 := (pctTgtOf d).isLt
  rw [humPctOf, clamp]
  omega

theorem humPctOf_encHumPct {p : Nat} (hp : p ≤ 63) : humPctOf (encHumPct s p) = p := by
  rw [humPctOf_eq]
  exact toNat_extractLsb'_mergeField (by decide) (by decide) (by omega)

theorem btRawOf_encBathTime (m : Minutes) : btRawOf (encBathTime s m) = btEncode m := by
  rw [btRawOf, encBathTime, extractLsb'_mergeField_field (by decide) (by decide),
    BitVec.setWidth_setWidth_of_le _ (by decide), BitVec.setWidth_eq]

end

/-- A number below a bound that fits 32 bits is its own payload value. -/
theorem toNat_ofNat_lt_of_lt {n bound : Nat} (hn : n < bound) (hbound : bound ≤ 2 ^ 32) :
    (BitVec.ofNat 32 n).toNat < bound := by
  rwa [BitVec.toNat_ofNat, Nat.mod_eq_of_lt (hn.trans_le hbound)]

/-- Settles O48: each rule merges a value that fits its field, so that the field reads back and those beside it are the
cache's. -/
theorem encodedPayloadsDecodeToTheValueSet : Obligations.EncodedPayloadsDecodeToTheValueSet := by
  refine fun s => ⟨fun c hc => ⟨?_, ?_⟩, fun c hc => ⟨?_, ?_⟩, fun m => ⟨?_, ?_⟩, fun n hn => ?_, fun p hp => ?_⟩
  · exact toNat_extractLsb'_mergeField (by decide) (by decide) (by omega)
  · exact extractLsb'_mergeField_other (len := 11) (by decide) (toNat_ofNat_lt_of_lt (by omega) (by decide)) (by decide)
  · exact toNat_extractLsb'_mergeField (by decide) (by decide) (by omega)
  · exact extractLsb'_mergeField_other (len := 12) (by decide) (toNat_ofNat_lt_of_lt (by omega) (by decide)) (by decide)
  · rw [btRawOf_encBathTime]
  · refine extractLsb'_mergeField_other (len := 12) (by decide) ?_ (by decide)
    rw [BitVec.toNat_setWidth_of_le (by decide)]
    exact (btEncode m).isLt
  · have hfit : (BitVec.ofNat 32 (40 + 8 * n)).toNat < 2 ^ 8 := toNat_ofNat_lt_of_lt (by omega) (by decide)
    exact ⟨humStepOf_encHumStep s hn, getLsbD_mergeField_other (by decide) hfit (by decide),
      extractLsb'_mergeField_other (by decide) hfit (by decide)⟩
  · have hfit : (BitVec.ofNat 32 p).toNat < 2 ^ 6 := toNat_ofNat_lt_of_lt (by omega) (by decide)
    exact ⟨humPctOf_encHumPct s hp, getLsbD_mergeField_other (by decide) hfit (by decide),
      extractLsb'_mergeField_other (by decide) hfit (by decide),
      extractLsb'_mergeField_other (by decide) hfit (by decide)⟩

/-! ### The operations that push a merged payload (R332 to R335) -/

/-- An operation whose body is a PUSH alone, on time and with room: T_LAST_OP and the frame are all it writes. -/
theorem accept_push_room {c : Config} {cmd : Cmd} {body : State → State} {s : State} (ho : s.OnTime)
    (hr : s.HasRoom c) (hbody : body s.noteOp = push c cmd (fun s => s) s.noteOp) :
    accept body s = { s with tLastOp := some s.now, txq := s.txq ++ [encodeFrame cmd] } := by
  rw [accept_onTime ho, hbody, push_room (by exact hr)]
  rfl

theorem clamp_zero_left (x hi : Nat) : clamp x 0 hi = min x hi := by simp [clamp]

theorem encTemp_eq (s : State) (c : Nat) : encTemp s c =
    (s.caches.c6000.data &&& 0xFFC007FF#32) ||| (BitVec.ofNat 32 (9 * c) <<< 11) := rfl

theorem encMaxTemp_eq (s : State) (c : Nat) : encMaxTemp s c =
    (s.caches.c4002.data &&& 0x000FFFFF#32) ||| (BitVec.ofNat 32 (18 * c) <<< 20) := rfl

theorem encHumStep_eq (s : State) (n : Nat) : encHumStep s n =
    (s.caches.c6001.data &&& 0xFFFFF00F#32) ||| (BitVec.ofNat 32 (40 + 8 * n) <<< 4) := rfl

theorem encHumPct_eq (s : State) (p : Nat) : encHumPct s p =
    (s.caches.c6001.data &&& 0xFFFFE07F#32) ||| (BitVec.ofNat 32 p <<< 7) := rfl

/-- Settles O24: each set is one PUSH of its encode rule's payload, from the default bounds 0 and 227. -/
theorem setTemperaturesPushTheMergedPayload : Obligations.SetTemperaturesPushTheMergedPayload := by
  intro celsius s ho hr
  have htemp : clamp celsius.toNat Config.chip.tempMinC Config.chip.tempMaxC = min celsius.toNat 227 :=
    clamp_zero_left _ _
  have hmaxTemp : clamp celsius.toNat Config.chip.maxTempMinC Config.chip.maxTempMaxC = min celsius.toNat 227 :=
    clamp_zero_left _ _
  refine ⟨congrArg Host.Outcome.next (accept_push_room ho hr ?_),
    congrArg Host.Outcome.next (accept_push_room ho hr ?_)⟩
  · rw [setBathTempBody, encTemp_eq, htemp]
    rfl
  · rw [setMaxBathTempBody, encMaxTemp_eq, hmaxTemp]
    rfl

/-- A percent that fits its field passes SET_HUM_PCT's own check (R335). -/
theorem setHumPct_accepts (c : Config) {p : Nat} (hp : p ≤ 63) (s : State) :
    setHumPct c p s = accept (setHumPctBody c p) s := by
  have hclamp : clamp p 0 100 = p := by rw [clamp_zero_left]; omega
  simp only [setHumPct, hclamp, Nat.not_lt.2 hp, decide_false, Bool.and_false, Bool.false_eq_true, if_false]

/-- Every other percent is refused, if the operation is on time; the clamp to 100 leaves it above 63. -/
theorem setHumPct_refuses (c : Config) {p : Nat} (hp : 63 < p) {s : State} (ho : s.OnTime) :
    setHumPct c p s = s.refuse .pctRange := by
  have hclamp : 63 < clamp p 0 100 := by rw [clamp_zero_left]; omega
  simp only [setHumPct, hclamp, ho, decide_true, Bool.not_false, Bool.and_true, if_true]

/-- Settles O25: the step set and a percent that passes the check are one PUSH each. -/
theorem setHumidityPushesOrRefuses : Obligations.SetHumidityPushesOrRefuses := by
  refine ⟨fun n s ho hr => congrArg Host.Outcome.next (accept_push_room ho hr ?_), fun p s ho hr hp => ?_,
    fun p s ho hp => congrArg Host.Outcome.next (setHumPct_refuses _ hp ho)⟩
  · rw [setHumStepBody, encHumStep_eq, clamp_zero_left]
    rfl
  · refine congrArg Host.Outcome.next ((setHumPct_accepts _ hp s).trans (accept_push_room ho hr ?_))
    rw [setHumPctBody, encHumPct_eq]
    rfl

/-! ### The messages without a filter (R225, R227 to R231, R233 to R236, R238, R239) -/

theorem emitHeaterState_eq (s : State) (id : HeaterStateId) :
    s.emitHeaterState id = { s with events := s.events ++ [⟨.heaterState, id.code⟩] } := rfl

theorem emit_emit (s : State) (k₁ k₂ : EventKind) (v₁ v₂ : U32) :
    (s.emit k₁ v₁).emit k₂ v₂ = { s with events := s.events ++ [⟨k₁, v₁⟩, ⟨k₂, v₂⟩] } := by
  simp [State.emit]

/-- Settles O37: the row's meaning is the report alone. -/
theorem unhandledCodeIsOnlyReported : Obligations.UnhandledCodeIsOnlyReported := fun _ _ _ => rfl

theorem decode3400_eq {c : Config} (hsrc : c.sessionSrc = .coil7180) (d : U32) (s : State) : decode3400 c d s = { s with
    heatingStatus := enableFlag d
    events := s.events ++ [⟨.heaterStatus, bitValue (enableFlag d)⟩,
      ⟨.heaterState, if enableFlag d then 0x01#32 else 0x00#32⟩] } := by
  have hcode : (if enableFlag d then HeaterStateId.on else .off).code = if enableFlag d then 0x01#32 else 0x00#32 :=
    apply_ite HeaterStateId.code _ _ _
  simp only [decode3400, hsrc, State.emitHeaterState, hcode, emit_emit]

/-- Settles O28: the default session source is COIL_7180. -/
theorem heaterEnableSetsTheStatus : Obligations.HeaterEnableSetsTheStatus :=
  fun d s => congrArg Host.Outcome.next (decode3400_eq (c := Config.chip) rfl d (s.writeCache .f3400 d))

/-- The level of each value of the two bits (R233). -/
theorem tankLevelOf_eq (d : U32) : tankLevelOf d =
    if tankOf d = 0#2 then 0#32 else if tankOf d = 1#2 then 50#32 else if tankOf d = 2#2 then 100#32 else 0xFF#32 := by
  have hvalues : ∀ x : BitVec 2, x = 0#2 ∨ x = 1#2 ∨ x = 2#2 ∨ x = 3#2 := by decide
  unfold tankLevelOf
  obtain h | h | h | h := hvalues (tankOf d) <;> rw [h] <;> rfl

/-- Settles O30: each message fills its cache and emits one record, whose value is a field of the payload as it stands
or, for the tank, the level of `tankLevelOf_eq`. -/
theorem readoutsEmitOneEvent : Obligations.ReadoutsEmitOneEvent := by
  intro d s
  have htank : exec (.msgTankLevel d) s = .next ((s.writeCache .f7280 d).emit .waterTankLevel (tankLevelOf d)) := rfl
  refine ⟨rfl, rfl, ?_, rfl, rfl, rfl⟩
  rw [htank, tankLevelOf_eq]
  rfl

/-- Settles O31: the temperature's record, then the publication of the target. -/
theorem temperaturesPublishTheTargetOnChange : Obligations.TemperaturesPublishTheTargetOnChange :=
  fun d s => congrArg Host.Outcome.next
    (publishTarget_eq (tgtRawOf d) ((s.writeCache .f6000 d).emit .temperature ((curRawOf d).setWidth 32)))

theorem decode7000_eq (s : State) : decode7000 s =
    { s with events := s.events ++ if s.heatingStatus then [] else [⟨.heaterState, 0x12#32⟩] } := by
  unfold decode7000
  split_ifs
  · simp
  · rfl

/-- Settles O33: whether the notice is published, the decode rule says; the rest is the cache. -/
theorem operationBlockedOnlyWhileNotHeating : Obligations.OperationBlockedOnlyWhileNotHeating :=
  fun d s => congrArg Host.Outcome.next (decode7000_eq (s.writeCache .f7000 d))

theorem decodeB6_eq (c : Config) (lo : Byte) (d : U32) (s : State) : decodeB6 c lo d s = { s with
    codeB6Lo := lo
    events := s.events ++ if sensorNibbleOf c lo d = 0x3#4 then [⟨.heaterState, 0x10#32⟩]
      else if sensorNibbleOf c lo d = 0x1#4 then [⟨.heaterState, 0x11#32⟩] else [] } := by
  unfold decodeB6
  split_ifs
  · rfl
  · rfl
  · simp

/-- Settles O36: the row's code has the low byte `lo`, and the default source of the nibble is the payload. -/
theorem sensorFaultReadsTheTopNibble : Obligations.SensorFaultReadsTheTopNibble := by
  intro lo d s
  have h : exec (.msgSensorFault lo d) s =
      .next (decodeB6 Config.chip (loByte (0xB6#8 ++ lo)) d (s.writeCache .fB6 d)) := rfl
  rw [h, loByte_append, decodeB6_eq]
  rfl

/-! ### The humidity message (R230) -/

theorem humStepOf_of_clamp {d : U32} {step : Nat}
    (h : (step : Int) = min (max (((stepRawOf d).toNat - 40 : Int) / 8) 0) 10) : humStepOf d = step := by
  rw [humStepOf, clampInt, ← h, Int.toNat_natCast]

theorem decode6001_step {d : U32} (h : percentMode d = false) (s : State) : decode6001 d s =
    { s with events := s.events ++ [⟨.humidityStep, BitVec.ofNat 32 (humStepOf d)⟩,
      ⟨.humidityPriority, (priorityOf d).setWidth 32⟩] } := by
  simp [decode6001, h, State.emit]

theorem decode6001_percent {d : U32} (h : percentMode d = true) (s : State) : decode6001 d s =
    { s with events := s.events ++ [⟨.humidityPercent, (pctTgtOf d).setWidth 32⟩,
      ⟨.humidityCurrent, (pctCurOf d).setWidth 32⟩, ⟨.humidityPriority, (priorityOf d).setWidth 32⟩] } := by
  have hpct : BitVec.ofNat 32 (humPctOf d) = (pctTgtOf d).setWidth 32 := by rw [humPctOf_eq, BitVec.ofNat_toNat]
  simp [decode6001, h, hpct, State.emit]

/-- Settles O32: one case for each value of the mode bit. -/
theorem humidityDecodesByMode : Obligations.HumidityDecodesByMode := by
  intro d s
  have h : exec (.msgHumidity d) s = .next (decode6001 d (s.writeCache .f6001 d)) := rfl
  refine ⟨fun hmode step hstep => ?_, fun hmode => ?_⟩
  · rw [h, decode6001_step hmode, humStepOf_of_clamp hstep]
    rfl
  · rw [h, decode6001_percent hmode]
    rfl

/-! ### The bath-time message and its filter (R226, R301, R303) -/

theorem withinBtWindow_iff {c : Config} {s : State} :
    withinBtWindow c s = true ↔ s.now < s.btSetT + c.btWindowMs := decide_eq_true_iff

theorem farFrom_iff {c : Config} {m p : Minutes} :
    farFrom c m p = true ↔ (c.btTol : Int) < |(m.val : Int) - (p.val : Int)| := by
  rw [farFrom, decide_eq_true_iff, Int.abs_eq_natAbs, Int.ofNat_lt]

theorem btReconcile_none {s : State} (h : s.btPending = none) (c : Config) (m : Minutes) :
    btReconcile c m s = publishBt m s := by
  simp [btReconcile, h]

/-- The pending target holds while the received value is filtered. -/
theorem btReconcile_holds {c : Config} {m p : Minutes} {s : State} (h : s.btPending = some p)
    (hhold : (withinBtWindow c s = true ∧ farFrom c m p = true) ∨ s.heatingStatus = false) :
    btReconcile c m s = publishBt p s := by
  have hcond : (withinBtWindow c s && farFrom c m p || !s.heatingStatus) = true := by simpa using hhold
  simp only [btReconcile, h, hcond, if_true]

/-- The pending target is cleared once the received value passes. -/
theorem btReconcile_clears {c : Config} {m p : Minutes} {s : State} (h : s.btPending = some p)
    (hpass : ¬ (withinBtWindow c s = true ∧ farFrom c m p = true)) (hheat : s.heatingStatus = true) :
    btReconcile c m s = publishBt m { s with btPending := none } := by
  have hcond : ¬ (withinBtWindow c s && farFrom c m p || !s.heatingStatus) = true := by simpa [hheat] using hpass
  simp only [btReconcile, h, hcond, Bool.false_eq_true, if_false]

/-- The message in terms of what BT_RECONCILE publishes. -/
theorem exec_msgBathTimerMaxTemp {d : U32} {v : Minutes} {s t : State}
    (h : btReconcile Config.chip (btDecode (btRawOf d)) (s.writeCache .f4002 d) = publishBt v t) :
    exec (.msgBathTimerMaxTemp d) s = .next { t with
      lastPubBt := some v
      events := t.events ++ (if t.lastPubBt = some v then [] else [⟨.bathTimeSetting, minutesValue v⟩]) ++
        [⟨.maxBathTemperature, (maxtRawOf d).setWidth 32⟩] } := by
  rw [publishBt_eq] at h
  change Host.Outcome.next (State.emit (btReconcile _ _ _) _ _) = _
  rw [h]
  rfl

/-- Settles O29: the three outcomes of the filter. -/
theorem bathTimerIsFiltered : Obligations.BathTimerIsFiltered := by
  rintro d m s rfl
  refine ⟨fun hnone => ?_, fun p hp hhold => ?_, fun p hp hpass hheat => ?_⟩
  · exact exec_msgBathTimerMaxTemp (btReconcile_none (s := s.writeCache .f4002 d) hnone _ _)
  · rw [← farFrom_iff] at hhold
    exact exec_msgBathTimerMaxTemp (btReconcile_holds (s := s.writeCache .f4002 d) hp
      (hhold.imp_left fun ⟨hwin, hfar⟩ => ⟨withinBtWindow_iff.2 hwin, hfar⟩))
  · refine exec_msgBathTimerMaxTemp (btReconcile_clears (s := s.writeCache .f4002 d) hp ?_ hheat)
    rintro ⟨hwin, hfar⟩
    obtain hlate | hnear := hpass
    · exact Nat.not_lt.2 hlate (withinBtWindow_iff.1 hwin)
    · exact not_lt.2 hnear (farFrom_iff.1 hfar)

/-! ### The door and block message (R237) -/

theorem ackLiteralOf_none {d : U32} (h1 : d ≠ 0x00060001#32) (h2 : d ≠ 0x00130001#32) (h3 : d ≠ 0x00130003#32)
    (h4 : d ≠ 0x00140003#32) : ackLiteralOf d = none := by
  simp only [ackLiteralOf, h1, h2, h3, h4, if_false]

/-- A 0xB000 packet after its cache, READY and READY_STATUS. -/
def doorReported (d : U32) (s : State) : State :=
  { s with
    caches := { s.caches with cB000 := ⟨d, true⟩ }
    ready := readyFlag d
    events := s.events ++ [⟨.readyStatus, bitValue (readyFlag d)⟩] }

theorem exec_msgDoorBlock_none {d : U32} (h : ackLiteralOf d = none) (s : State) :
    exec (.msgDoorBlock d) s = .next (doorReported d s) := by
  change Host.Outcome.next (decodeB000 _ _ _) = _
  simp only [decodeB000, h]
  rfl

theorem exec_msgDoorBlock_some {d : U32} {l : AckLiteral} (h : ackLiteralOf d = some l) (s : State) :
    exec (.msgDoorBlock d) s = .next (push Config.chip (Config.chip.ackCmd l) (fun s => s)
      ((doorReported d s).emitHeaterState (.blocked l))) := by
  change Host.Outcome.next (decodeB000 _ _ _) = _
  simp only [decodeB000, h]
  rfl

theorem bitValue_readyFlag (d : U32) : bitValue (readyFlag d) = if d.getLsbD 0 then 0#32 else 1#32 := by
  rw [readyFlag]
  cases d.getLsbD 0 <;> rfl

/-- Settles O35: the payload is one of the literals, each with its status and its acknowledgement's PUSH, or none. -/
theorem doorBlockAcknowledges : Obligations.DoorBlockAcknowledges := by
  intro d s t ht
  have hdoor : doorReported d s = t := by rw [ht, doorReported, bitValue_readyFlag]; rfl
  refine ⟨fun h1 h2 h3 h4 => ?_, fun l id hmem => ?_⟩
  · rw [exec_msgDoorBlock_none (ackLiteralOf_none h1 h2 h3 h4), hdoor]
  · have hliteral : ackLiteralOf d = some l ∧ (HeaterStateId.blocked l).code = id := by
      simp only [List.mem_cons, Prod.mk.injEq, List.not_mem_nil, or_false] at hmem
      obtain ⟨rfl, rfl, rfl⟩ | ⟨rfl, rfl, rfl⟩ | ⟨rfl, rfl, rfl⟩ | ⟨rfl, rfl, rfl⟩ := hmem <;> exact ⟨rfl, rfl⟩
    obtain ⟨hack, hid⟩ := hliteral
    have htxq : t.txq = s.txq := by rw [ht]
    have hfault : t.fault = s.fault := by rw [ht]
    rw [exec_msgDoorBlock_some hack, hdoor, emitHeaterState_eq, hid]
    refine ⟨fun hr => congrArg Host.Outcome.next ?_, fun hr => congrArg Host.Outcome.next ?_⟩
    · rw [push_room (by simpa only [State.HasRoom, htxq] using hr), htxq]
    · rw [push_full (by simpa only [State.HasRoom, htxq] using hr), State.raiseOverflow, hfault]

end Sys2Proof.Machine

/-! # The command queue (45_command_queue.md R270 to R282)

First what a step does to TXQ, the transmitter and TAIL_ARMED, and the two safety statements that follow from it; then
the scheduler's two outcomes and TICK; at the end the operations that push, with room and without. -/

namespace Sys2Proof.Machine

open Sys2Proof Sys2Proof.Statements

/-! ### TXQ, the transmit history and TAIL_ARMED over a step -/

/-- From `s` to `t` nothing is sent, and TXQ gains at most one command's frame at its back, where there was room. -/
structure Enqueues (c : Config) (s t : State) : Prop where
  txq : t.txq = s.txq ∨ (s.HasRoom c ∧ ∃ cmd, t.txq = s.txq ++ [encodeFrame cmd])
  txOut : t.txOut = s.txOut

/-- Everything that a step of the modelled block can do to TXQ, the transmit history and TAIL_ARMED. -/
inductive QueueStep (s t : State) : Prop where
  /-- nothing is presented, or an operation is refused or of the command path, or a TICK sends nothing -/
  | hold (enqueues : Enqueues Config.chip s t) (tailArmed : t.tailArmed = s.tailArmed)
  /-- an RX_BYTE, which may receive a packet that is acknowledged, and which compares the last six bytes (R273) -/
  | receive {op : PortOp} {rest : List PortOp} {b : Byte} (inputs : s.inputs = op :: rest)
      (decoded : decode (.portWord op.word) = .ok (.rxByte b)) (enqueues : Enqueues Config.chip s t)
      (tailArmed : t.tailArmed = tailFlag Config.chip (lastSix (s.rxHist ++ [b])))
  /-- a TICK under all the conditions of R276 -/
  | send {op : PortOp} {rest : List PortOp} {f : List Byte} {u : Nat} (inputs : s.inputs = op :: rest)
      (decoded : decode (.portWord op.word) = .ok (.tick 0#16)) (front : s.txq = f :: t.txq)
      (wasArmed : s.tailArmed = true) (received : s.tLastRx = some u)
      (gap : u + Config.chip.gapMs Config.chip.model ≤ op.now) (sent : t.txOut = s.txOut ++ [f])
      (disarmed : t.tailArmed = false)
  /-- a RESET -/
  | reset {op : PortOp} {rest : List PortOp} (inputs : s.inputs = op :: rest)
      (decoded : decode (.portWord op.word) = .ok .reset) (emptied : t.txq = []) (txOut : t.txOut = s.txOut)
      (disarmed : t.tailArmed = false)

theorem rxByteBody_enqueues {c : Config} (hsrc : c.sessionSrc = .coil7180) (b : Byte) (s : State) :
    Enqueues c s (rxByteBody c b s) where
  txq := by
    obtain ⟨a, fb, un, dg, u, rfl, e | ⟨f, code, d, e⟩⟩ := rxByteBody_parts c b s <;> rw [e]
    · exact .inl rfl
    · exact (decodeFamily_writes hsrc f code d (State.writeCache _ f d)).txq
  txOut := by
    obtain ⟨_, _, hk⟩ := assemble_keeps c b (tailUpdate c b { s with tLastRx := some s.now })
    exact hk.txOut

/-- RX_BYTE arms the block exactly if the byte completes the tail, whatever else it does. -/
theorem rxByteBody_tailArmed (c : Config) (b : Byte) (s : State) :
    (rxByteBody c b s).tailArmed = tailFlag c (lastSix (s.rxHist ++ [b])) := by
  obtain ⟨_, _, hk⟩ := assemble_keeps c b (tailUpdate c b { s with tLastRx := some s.now })
  rw [← pushHistory_eq_lastSix]
  exact hk.tailArmed

theorem step_queue {s t : State} (h : step s = .next t) : QueueStep s t := by
  obtain ⟨-, rfl⟩ | ⟨op, rest, hin, ⟨r, rfl⟩ | ⟨i, hd, hi⟩⟩ := step_parts h
  · exact .hold ⟨.inl rfl, rfl⟩ rfl
  · exact .hold ⟨.inl rfl, rfl⟩ rfl
  obtain ⟨r, rfl⟩ | ⟨-, ⟨rfl, rfl⟩ | ⟨b, rfl, rfl⟩ | ⟨n, rfl, rfl⟩ | hc⟩ := portOp_cases hd hi
  · exact .hold ⟨.inl rfl, rfl⟩ rfl
  · exact .reset hin hd rfl rfl rfl
  · have he := rxByteBody_enqueues (c := Config.chip) rfl b (s.take op rest).noteOp
    exact .receive hin hd ⟨he.txq, he.txOut⟩ (rxByteBody_tailArmed _ b (s.take op rest).noteOp)
  · obtain ⟨se, lp, ev, u, rfl, -, e | ⟨f, q, v, hq, harmed, rfl, hrx, hgap, e⟩⟩ :=
      tickBody_cases Config.chip n (s.take op rest).noteOp <;> rw [e]
    · exact .hold ⟨.inl rfl, rfl⟩ rfl
    · exact .send hin hd hq harmed hrx hgap rfl rfl
  · exact .hold ⟨hc.txq, hc.txOut⟩ hc.tailArmed

/-- Settles O57: only the sending TICK transmits, an armed block holding the tail signature by the invariant; only
RX_BYTE arms the block, by comparing the last six bytes. -/
theorem transmissionIsCollisionFree : Obligations.TransmissionIsCollisionFree := by
  intro s t htail h
  obtain ⟨-, hsig⟩ := htail
  refine ⟨fun hsent => ?_, fun hwas harmed => ?_⟩
  · cases step_queue h with
    | hold he _ => exact absurd he.txOut hsent
    | receive _ _ he _ => exact absurd he.txOut hsent
    | reset _ _ _ htx _ => exact absurd htx hsent
    | send hin hd hfront hwas hrx hgap hout hdis =>
      obtain ⟨hhist, -⟩ := hsig hwas
      exact ⟨_, _, _, _, hin, hd, hfront, hwas, hhist, hrx, hgap, hout, hdis⟩
  · cases step_queue h with
    | hold _ e => exact nomatch hwas.symm.trans (e.symm.trans harmed)
    | receive hin hd _ e => exact ⟨_, _, _, hin, hd, tailFlag_iff.1 (e.symm.trans harmed)⟩
    | send _ _ _ _ _ _ _ hdis => exact nomatch hdis.symm.trans harmed
    | reset _ _ _ _ hdis => exact nomatch hdis.symm.trans harmed

theorem Enqueues.keeps_or_appends {c : Config} {s t : State} (h : Enqueues c s t) :
    (t.txq = s.txq ∧ t.txOut = s.txOut) ∨ ∃ f, t.txq = s.txq ++ [f] ∧ t.txOut = s.txOut := by
  obtain e | ⟨-, cmd, e⟩ := h.txq
  · exact .inl ⟨e, h.txOut⟩
  · exact .inr ⟨_, e, h.txOut⟩

/-- Settles O58: what the queue can do over a step, without the conditions under which it does so. -/
theorem queueIsFirstInFirstOut : Obligations.QueueIsFirstInFirstOut := by
  intro s t h
  cases step_queue h with
  | hold he _ => exact he.keeps_or_appends.imp_right .inl
  | receive _ _ he _ => exact he.keeps_or_appends.imp_right .inl
  | send _ _ hfront _ _ _ hout _ => exact .inr (.inr (.inl ⟨_, hfront, hout⟩))
  | reset hin hd hempty htx _ => exact .inr (.inr (.inr ⟨_, _, hin, hd, hempty, htx⟩))

/-! ### The scheduler (R276 to R280) -/

/-- SCHEDULE under all four conditions sends the front frame and disarms. -/
theorem schedule_sends {c : Config} {n : U16} {s : State} {u : Nat} {f : List Byte} {q : List (List Byte)}
    (hrx : s.tLastRx = some u) (hq : s.txq = f :: q) (harmed : s.tailArmed = true) (hn : n = 0#16)
    (hgap : c.gapMs c.model + u ≤ s.now) :
    schedule c n s = { s with txq := q, tailArmed := false, txOut := s.txOut ++ [f] } := by
  have hmay : maySend c n s = true := by simp [maySend, gapElapsed, harmed, hn, hrx, Nat.add_comm u, hgap]
  simp only [schedule, hq, hmay, if_true]
  rfl

/-- SCHEDULE with one of the conditions failing does nothing. -/
theorem schedule_holds {c : Config} {n : U16} {s : State} (h : s.txq = [] ∨ s.tailArmed = false ∨ n ≠ 0#16 ∨
    ∃ u, s.tLastRx = some u ∧ s.now < c.gapMs c.model + u) : schedule c n s = s := by
  obtain ⟨f, q, u, hq, harmed, hn, hrx, hgap, -⟩ | e := schedule_cases c n s
  · exfalso
    obtain h | h | h | ⟨v, hv, hlt⟩ := h
    · exact nomatch hq.symm.trans h
    · exact nomatch harmed.symm.trans h
    · exact h hn
    · obtain rfl : u = v := Option.some.inj (hrx.symm.trans hv)
      omega
  · exact e

/-- SESSION_TICK after T_LAST_OP is the session's part of TICK as stated. -/
theorem sessionTick_noteOp (s : State) : sessionTick Config.chip s.noteOp = afterSession s := by
  have hcases := sessionTick_cases Config.chip s.noteOp
  simp only [State.noteOp_sessionActive, State.noteOp_sessionLastPubMin, State.noteOp_now,
    State.noteOp_sessionStartT] at hcases
  unfold afterSession
  obtain ⟨h, e⟩ | ⟨h, hpub, e⟩ | ⟨h, hpub, e⟩ := hcases <;> rw [e]
  · rw [if_neg (Bool.eq_false_iff.1 h)]
    rfl
  · rw [if_pos h, ← hpub, if_pos rfl, List.append_nil]
    rfl
  · rw [if_pos h, if_neg hpub]
    rfl

theorem exec_tick_onTime {s : State} (h : s.OnTime) (n : U16) :
    exec (.tick n) s = .next (schedule Config.chip n (afterSession s)) := by
  rw [← sessionTick_noteOp]
  exact congrArg Host.Outcome.next (accept_onTime h)

/-- The session's part of TICK leaves alone what the scheduler reads and writes. -/
theorem afterSession_keeps (s : State) : (afterSession s).txq = s.txq ∧ (afterSession s).txOut = s.txOut ∧
    (afterSession s).tailArmed = s.tailArmed ∧ (afterSession s).tLastRx = s.tLastRx ∧
    (afterSession s).now = s.now := by
  unfold afterSession
  split <;> exact ⟨rfl, rfl, rfl, rfl, rfl⟩

/-- Settles O18: the scheduler reads after the session's part what it would have read before. -/
theorem tickSendsOrHolds : Obligations.TickSendsOrHolds := by
  intro n s ho
  obtain ⟨hq, hout, harm, hrx, hnow⟩ := afterSession_keeps s
  rw [exec_tick_onTime ho, ← hq, ← hout, ← harm, ← hrx, ← hnow]
  exact ⟨fun u f q h1 h2 h3 h4 h5 => congrArg Host.Outcome.next (schedule_sends h1 h2 h3 h4 h5),
    fun h => congrArg Host.Outcome.next (schedule_holds h)⟩

/-! ### The operations that push (R270, R271) -/

/-- An operation whose body is a PUSH and what follows it, on time and without room: T_LAST_OP and the fault are all it
writes. -/
theorem next_accept_push_full {c : Config} {cmd : Cmd} {body k : State → State} {s : State} (ho : s.OnTime)
    (hfull : ¬ s.HasRoom c) (hbody : body s.noteOp = push c cmd k s.noteOp) :
    (.next (accept body s) : Host.Outcome State Fault Refusal) =
      .next { s with tLastOp := some s.now, fault := { s.fault with queueOverflow := true } } := by
  rw [accept_onTime ho, hbody, push_full (by exact hfull)]
  rfl

/-- Settles O21: ENQUEUE is a PUSH. -/
theorem enqueueAppendsTheFrame : Obligations.EnqueueAppendsTheFrame :=
  fun _ _ _ _ ho => ⟨fun hr => congrArg Host.Outcome.next (accept_push_room ho hr rfl),
    fun hfull => next_accept_push_full ho hfull rfl⟩

/-- A relay whose observed state is not the one set is commanded (R307). -/
theorem relaySet_learned {s : State} {r : Relay} {on : Bool} (hl : s.truthLearned = true) (hne : on ≠ s.truth r)
    (c : Config) : relaySet c r on s = push c (c.relayCmd r on) (fun s => s.noteCmd r) s := by
  simp only [relaySet, hl, hne, if_true, if_false]

theorem debounced_eq_false {c : Config} {r : Relay} {s : State}
    (h : ∀ t, s.lastCmd r = some t → t + c.debounceMs ≤ s.now) : debounced c r s = false := by
  unfold debounced
  cases ht : s.lastCmd r with
  | none => rfl
  | some t => exact decide_eq_false (Nat.not_lt.2 (h t ht))

/-- Before any state is observed, a relay that is not debounced is commanded, and its state announced (R308). -/
theorem relaySet_unlearned {c : Config} {s : State} {r : Relay} (hl : s.truthLearned = false)
    (hd : ∀ t, s.lastCmd r = some t → t + c.debounceMs ≤ s.now) (on : Bool) :
    relaySet c r on s = push c (c.relayCmd r on)
      (fun s => (s.noteCmd r).emit (relayStatus r) (bitValue on)) s := by
  simp only [relaySet, hl, debounced_eq_false hd, Bool.false_eq_true, if_false]

/-- Each of the four literals of 0xB000 has its acknowledgement and its status, and clears READY (R237). -/
theorem ackLiteralOf_literal {d id : U32} (h : (d, id) ∈ [(0x00060001#32, 0x20#32), (0x00130001#32, 0x21#32),
    (0x00130003#32, 0x22#32), (0x00140003#32, 0x23#32)]) :
    ∃ l, ackLiteralOf d = some l ∧ (HeaterStateId.blocked l).code = id ∧ readyFlag d = false := by
  simp only [List.mem_cons, Prod.mk.injEq, List.not_mem_nil, or_false] at h
  obtain ⟨rfl, rfl⟩ | ⟨rfl, rfl⟩ | ⟨rfl, rfl⟩ | ⟨rfl, rfl⟩ := h <;> exact ⟨_, rfl, rfl, rfl⟩

/-- A literal's acknowledgement without room: what DECODE_B000 did before its PUSH stands. -/
theorem exec_msgDoorBlock_full {d id : U32} {l : AckLiteral} {s : State} (hfull : ¬ s.HasRoom Config.chip)
    (hack : ackLiteralOf d = some l) (hid : (HeaterStateId.blocked l).code = id) (hready : readyFlag d = false) :
    exec (.msgDoorBlock d) s = .next { s with
      caches := { s.caches with cB000 := ⟨d, true⟩ }
      ready := false
      events := s.events ++ [⟨.readyStatus, 0#32⟩, ⟨.heaterState, id⟩]
      fault := { s.fault with queueOverflow := true } } := by
  rw [exec_msgDoorBlock_some hack, push_full (by exact hfull), emitHeaterState_eq, hid]
  simp [doorReported, hready, State.raiseOverflow, bitValue]

/-- Settles O22: each of these operations is a PUSH with what comes after it, which a full queue leaves out. -/
theorem fullQueueFaults : Obligations.FullQueueFaults := by
  intro s ho hfull
  refine ⟨fun i hi => ?_, fun hl => ⟨?_, ?_⟩, fun on hl hd => ?_, fun on hl hd => ?_, fun d id hmem => ?_⟩
  · obtain ⟨_, _, _, rfl⟩ | ⟨_, rfl⟩ | ⟨_, rfl⟩ | ⟨_, rfl⟩ | ⟨_, rfl⟩ | ⟨p, rfl, hp⟩ := hi
    · exact next_accept_push_full ho hfull rfl
    · exact next_accept_push_full ho hfull (by rw [setBathTimeBody])
    · exact next_accept_push_full ho hfull rfl
    · exact next_accept_push_full ho hfull rfl
    · exact next_accept_push_full ho hfull rfl
    · exact (congrArg Host.Outcome.next (setHumPct_accepts _ hp s)).trans (next_accept_push_full ho hfull rfl)
  · exact next_accept_push_full ho hfull
      (relaySet_learned (s := s.noteOp) (r := .light) hl (Bool.not_ne_self _) _)
  · exact next_accept_push_full ho hfull
      (relaySet_learned (s := s.noteOp) (r := .heater) hl (Bool.not_ne_self _) _)
  · exact next_accept_push_full ho hfull (relaySet_unlearned (s := s.noteOp) (r := .light) hl hd on)
  · exact next_accept_push_full ho hfull (relaySet_unlearned (s := s.noteOp) (r := .heater) hl hd on)
  · obtain ⟨l, hack, hid, hready⟩ := ackLiteralOf_literal hmem
    exact exec_msgDoorBlock_full hfull hack hid hready

end Sys2Proof.Machine

/-! # The state reconciler (46_reconciler.md R301 to R314)

First the session: the invariant of its published minutes, kept by every step, and then what one TICK does to it. Then
the operations that set a target or a relay, with room in TXQ. At the end the 0x7180 message, which learns the relay
truth and starts or stops the session. -/

namespace Sys2Proof.Machine

open Sys2Proof Sys2Proof.Statements

/-! ### The session's invariant (R309 to R314, R49) -/

/-- While a session runs, an operation that is on time finds its start in the past, and the minutes last published among
those that have passed: time has only gone on since T_LAST_OP. -/
theorem publishedMinutes_le_now {s : State} (ho : s.OnTime) (hs : s.SessionOk) (hactive : s.sessionActive = true) :
    ∃ p, s.sessionLastPubMin = some p ∧ s.sessionStartT ≤ s.now ∧ p ≤ (s.now - s.sessionStartT) / 60000 := by
  obtain ⟨p, u, hpub, hop, hstart, hp⟩ := hs hactive
  have hu : u ≤ s.now := onTime_iff.1 ho u hop
  exact ⟨p, hpub, hstart.trans hu, hp.trans (Nat.div_le_div_right (Nat.sub_le_sub_right hu _))⟩

/-- A session that stays, stops, or starts now with minute 0 published keeps the invariant. -/
theorem sessionOk_of_moves {s t : State} (hs : s.SessionOk) (hop : s.tLastOp = some s.now)
    (htime : t.tLastOp = s.tLastOp) (hmoves : SessionMoves s t) : t.SessionOk := by
  intro hactive
  obtain ⟨ea, et, ep⟩ | ⟨-, et, ep⟩ | ea := hmoves
  · rw [htime, et, ep]
    exact hs (ea ▸ hactive)
  · exact ⟨0, s.now, ep, htime.trans hop, et.le, Nat.zero_le _⟩
  · exact nomatch ea.symm.trans hactive

/-- What RX_BYTE does to the session is what the assembler does, which writes it only through a packet. -/
theorem rxByteBody_moves (c : Config) (b : Byte) (s : State) : SessionMoves s (rxByteBody c b s) :=
  assemble_moves c b (tailUpdate c b { s with tLastRx := some s.now })

theorem sessionOk_keptByParts : KeptByParts State.SessionOk where
  take _ _ _ h := h
  refuse _ _ h := h
  noteOp s ho h := fun hactive => by
    obtain ⟨p, hpub, hstart, hp⟩ := publishedMinutes_le_now ho h hactive
    exact ⟨p, s.now, hpub, rfl, hstart, hp⟩
  reset _ _ _ := fun hactive => nomatch hactive
  rxByte b s hop h := sessionOk_of_moves h hop (rxByteBody_tLastOp Config.chip b s) (rxByteBody_moves Config.chip b s)
  tick n s hop h := by
    obtain ⟨se, lp, ev, u, rfl, hlp, ht⟩ := tickBody_cases Config.chip n s
    have hok : State.SessionOk { s with sessionElapsedS := se, sessionLastPubMin := lp, events := s.events ++ ev } := by
      intro hactive
      obtain ⟨-, rfl⟩ | rfl := hlp
      · obtain ⟨-, u, -, hu, hstart, -⟩ := h hactive
        obtain rfl : s.now = u := Option.some.inj (hop.symm.trans hu)
        exact ⟨_, s.now, rfl, hop, hstart, Nat.le_refl _⟩
      · exact h hactive
    obtain e | ⟨f, rest, t, -, -, -, -, -, e⟩ := ht <;> rw [e] <;> exact hok
  command _ _ hop hc h :=
    sessionOk_of_moves h hop hc.tLastOp (.inl ⟨hc.sessionActive, hc.sessionStartT, hc.sessionLastPubMin⟩)

/-- Settles O60: T_LAST_OP never goes back, and what a step publishes is 0 at a session's start or the minutes that have
passed at the operation's own timestamp. -/
theorem stepKeepsTheSessionInvariant : Obligations.StepKeepsTheSessionInvariant :=
  fun _ _ hs h => sessionOk_keptByParts.step hs h

/-! ### TICK and the session (R312 to R314) -/

/-- The scheduler writes TXQ, TAIL_ARMED and the transmit port only. -/
theorem schedule_eq (c : Config) (n : U16) (s : State) :
    ∃ q a o, schedule c n s = { s with txq := q, tailArmed := a, txOut := o } := by
  obtain ⟨f, q, u, -, -, -, -, -, e⟩ | e := schedule_cases c n s <;> rw [e] <;> exact ⟨_, _, _, rfl⟩

/-- TICK without a session: T_LAST_OP, and what the scheduler writes. -/
theorem next_tick_inactive {n : U16} {s t : State} (ho : s.OnTime) (h : exec (.tick n) s = .next t)
    (hactive : s.sessionActive = false) :
    ∃ q a o, t = { s with tLastOp := some s.now, txq := q, tailArmed := a, txOut := o } := by
  obtain ⟨q, a, o, e⟩ := schedule_eq Config.chip n (afterSession s)
  rw [exec_tick_onTime ho, e, afterSession, if_neg (Bool.eq_false_iff.1 hactive)] at h
  cases h
  exact ⟨q, a, o, rfl⟩

/-- TICK while a session runs: T_LAST_OP, the session's times and its record, and what the scheduler writes. -/
theorem next_tick_active {n : U16} {s t : State} (ho : s.OnTime) (h : exec (.tick n) s = .next t)
    (hactive : s.sessionActive = true) : ∃ q a o, t = { s with
      tLastOp := some s.now
      sessionElapsedS := (s.now - s.sessionStartT) / 1000
      sessionLastPubMin := some ((s.now - s.sessionStartT) / 60000)
      events := s.events ++ if s.sessionLastPubMin = some ((s.now - s.sessionStartT) / 60000) then []
        else [⟨.sessionUptime, uptimeValue Config.chip ((s.now - s.sessionStartT) / 60000)⟩]
      txq := q, tailArmed := a, txOut := o } := by
  obtain ⟨q, a, o, e⟩ := schedule_eq Config.chip n (afterSession s)
  rw [exec_tick_onTime ho, e, afterSession, if_pos hactive] at h
  cases h
  exact ⟨q, a, o, rfl⟩

/-- Settles O19: the session's part of TICK, which the scheduler leaves as it is. -/
theorem tickTimesTheSession : Obligations.TickTimesTheSession := by
  intro n s t ho h
  cases hactive : s.sessionActive with
  | false =>
    obtain ⟨q, a, o, rfl⟩ := next_tick_inactive ho h hactive
    exact ⟨hactive, rfl, fun _ => ⟨rfl, rfl, rfl⟩, nofun⟩
  | true =>
    obtain ⟨q, a, o, rfl⟩ := next_tick_active ho h hactive
    refine ⟨hactive, rfl, nofun, fun _ => ⟨rfl, ?_⟩⟩
    rintro _ rfl
    refine ⟨rfl, fun hpub => ?_, fun hpub => ⟨uptimeValue Config.chip _, ?_, fun hfit => if_pos hfit⟩⟩
    · rw [if_pos hpub, List.append_nil]
    · rw [if_neg hpub]

/-- Settles O20: an event of TICK means a running session and a new minute; by the invariant the last one published had
passed already, so the new one is above it. -/
theorem tickPublishesEachMinuteOnce : Obligations.TickPublishesEachMinuteOnce := by
  intro n s t h hevents
  by_cases ho : s.OnTime
  · cases hactive : s.sessionActive with
    | false =>
      obtain ⟨q, a, o, rfl⟩ := next_tick_inactive ho h hactive
      exact absurd rfl hevents
    | true =>
      obtain ⟨q, a, o, rfl⟩ := next_tick_active ho h hactive
      have hnew : s.sessionLastPubMin ≠ some ((s.now - s.sessionStartT) / 60000) := fun hpub =>
        hevents (by rw [if_pos hpub, List.append_nil])
      refine ⟨_, rfl, hnew, rfl, rfl, by rw [if_neg hnew], fun hs => ?_⟩
      obtain ⟨p, hpub, -, hp⟩ := publishedMinutes_le_now ho hs hactive
      exact ⟨p, hpub, Nat.lt_of_le_of_ne hp fun e => hnew (e ▸ hpub)⟩
  · have hlate : exec (.tick n) s = .next (s.refuse .timeRegress) := congrArg Host.Outcome.next (accept_late ho)
    cases hlate.symm.trans h
    exact absurd rfl hevents

/-! ### SET_BATH_TIME (R302, R304, R331) -/

theorem encBathTime_eq (s : State) (m : Minutes) : encBathTime s m =
    (s.caches.c4002.data &&& 0xFFFFF000#32) ||| (btEncode m).setWidth 32 := by
  rw [encBathTime, mergeField, BitVec.shiftLeft_zero]
  rfl

/-- SET_BATH_TIME's body with room for its frame: the frame, the pending target, and the target's publication. -/
theorem setBathTimeBody_room {c : Config} {minutes : Nat} {m : Minutes} (hm : m.val = min minutes 575) {s : State}
    (hr : s.HasRoom c) : setBathTimeBody c minutes s = { s with
      txq := s.txq ++ [encodeFrame ⟨c.cmdType, 0x4002#16, encBathTime s m⟩]
      btPending := some m
      btSetT := s.now
      lastPubBt := some m
      events := s.events ++ if s.lastPubBt = some m then [] else [⟨.bathTimeSetting, minutesValue m⟩] } := by
  obtain rfl : m = clampMinutes minutes := Fin.ext hm
  simp only [setBathTimeBody, push_room hr, publishBt_eq]

/-- Settles O23: T_LAST_OP, then the body, whose PUSH has room. -/
theorem setBathTimePushesAndPends : Obligations.SetBathTimePushesAndPends := by
  intro minutes m s ho hr hm
  refine congrArg Host.Outcome.next ((accept_onTime ho).trans ?_)
  rw [setBathTimeBody_room hm (by exact hr), encBathTime_eq]
  rfl

/-! ### SET_LIGHT and SET_HEATER (R306 to R308) -/

/-- A relay observed in the state set is not commanded (R307). -/
theorem relaySet_observed {s : State} {r : Relay} {on : Bool} (hl : s.truthLearned = true) (he : on = s.truth r)
    (c : Config) : relaySet c r on s = s := by
  simp only [relaySet, hl, he, if_true]

/-- Before any state is observed, a relay commanded shortly before is not commanded again (R308). -/
theorem relaySet_debounced {c : Config} {s : State} {r : Relay} {t : Nat} (hl : s.truthLearned = false)
    (ht : s.lastCmd r = some t) (hlt : s.now < t + c.debounceMs) (on : Bool) : relaySet c r on s = s := by
  have hd : debounced c r s = true := by simp only [debounced, ht, hlt, decide_true]
  simp only [relaySet, hl, hd, Bool.false_eq_true, if_false, if_true]

/-- An operation that is on time and whose body does nothing leaves T_LAST_OP as its only trace. -/
theorem next_accept_idle {body : State → State} {s : State} (ho : s.OnTime) (hbody : body s.noteOp = s.noteOp) :
    (.next (accept body s) : Host.Outcome State Fault Refusal) = .next { s with tLastOp := some s.now } :=
  congrArg Host.Outcome.next ((accept_onTime ho).trans hbody)

/-- An operation whose body is a PUSH and what follows it, on time and with room. -/
theorem next_accept_push_room {c : Config} {cmd : Cmd} {body k : State → State} {s : State} (ho : s.OnTime)
    (hr : s.HasRoom c) (hbody : body s.noteOp = push c cmd k s.noteOp) :
    (.next (accept body s) : Host.Outcome State Fault Refusal) =
      .next (k { s with tLastOp := some s.now, txq := s.txq ++ [encodeFrame cmd] }) := by
  rw [accept_onTime ho, hbody, push_room (by exact hr)]
  rfl

/-- Settles O26: the relay's observed state decides whether it is commanded; both relays go by the one rule. -/
theorem learnedRelaySetIsIdempotent : Obligations.LearnedRelaySetIsIdempotent := by
  intro on s ho hl
  refine ⟨fun he => ?_, fun he => ?_, fun hne hr => ?_, fun hne hr => ?_⟩
  · exact next_accept_idle ho (relaySet_observed (s := s.noteOp) (r := .light) hl he _)
  · exact next_accept_idle ho (relaySet_observed (s := s.noteOp) (r := .heater) hl he _)
  · exact next_accept_push_room ho hr (relaySet_learned (s := s.noteOp) (r := .light) hl hne _)
  · exact next_accept_push_room ho hr (relaySet_learned (s := s.noteOp) (r := .heater) hl hne _)

/-- Settles O27: the relay's own last command decides whether it is commanded; both relays go by the one rule. -/
theorem unlearnedRelaySetIsOptimisticAndDebounced : Obligations.UnlearnedRelaySetIsOptimisticAndDebounced := by
  intro on s ho hl
  refine ⟨fun t ht hlt => ?_, fun t ht hlt => ?_, fun hr hd => ?_, fun hr hd => ?_⟩
  · exact next_accept_idle ho (relaySet_debounced (s := s.noteOp) (r := .light) hl ht hlt on)
  · exact next_accept_idle ho (relaySet_debounced (s := s.noteOp) (r := .heater) hl ht hlt on)
  · exact next_accept_push_room ho hr (relaySet_unlearned (s := s.noteOp) (r := .light) hl hd on)
  · exact next_accept_push_room ho hr (relaySet_unlearned (s := s.noteOp) (r := .heater) hl hd on)

/-! ### The 0x7180 message (R232, R305, R309 to R311) -/

/-- SESSION_UPDATE in one equation: the session starts, stops or stays by its argument and whether it ran. -/
theorem sessionUpdate_eq_ite (h : Bool) (s : State) : sessionUpdate h s = { s with
    sessionActive := h
    sessionStartT := if h && !s.sessionActive then s.now else s.sessionStartT
    sessionElapsedS := if h && !s.sessionActive then 0
      else if !h && s.sessionActive then (s.now - s.sessionStartT) / 1000 else s.sessionElapsedS
    sessionLastPubMin := if h && !s.sessionActive then some 0 else s.sessionLastPubMin
    events := s.events ++ if h && !s.sessionActive then [⟨.sessionUptime, 0#32⟩] else [] } := by
  obtain ⟨rfl, ha, e⟩ | ⟨rfl, ha, e⟩ | ⟨rfl, e⟩ := sessionUpdate_cases h s <;> rw [e]
  · simp [ha]
  · simp [ha]
  · simp

theorem coilState_code (heating heatingStatus : Bool) : (coilState heating heatingStatus).code =
    if heating then 0x02#32 else if heatingStatus then 0x03#32 else 0x00#32 := by
  cases heating <;> cases heatingStatus <;> rfl

/-- DECODE_7180 under the session source COIL_7180: the truth and its two records, then SESSION_UPDATE. -/
theorem decode7180_eq {c : Config} (hsrc : c.sessionSrc = .coil7180) (d : U32) (s : State) : decode7180 c d s =
    sessionUpdate (coilFlag c d) { s with
      coilHeating := coilFlag c d
      lightTruth := lightFlag c d
      heaterTruth := coilFlag c d
      truthLearned := true
      events := s.events ++ [⟨.lightStatus, bitValue (lightFlag c d)⟩, ⟨.heaterState,
        if coilFlag c d then 0x02#32 else if s.heatingStatus then 0x03#32 else 0x00#32⟩] } := by
  simp only [decode7180, hsrc, State.emitHeaterState, emit_emit, coilState_code, truthLearn]

/-- Settles O34: the two flags are the stated fields of the payload; the rest is the decode rule and SESSION_UPDATE. -/
theorem relayCoilLearnsTheTruth : Obligations.RelayCoilLearnsTheTruth := by
  intro d light h s hlight hcoil
  obtain rfl : light = lightFlag Config.chip d := hlight.trans (decide_not ..)
  obtain rfl : h = coilFlag Config.chip d := hcoil.trans (decide_not ..)
  refine congrArg Host.Outcome.next ((decode7180_eq (c := Config.chip) rfl d (s.writeCache .f7180 d)).trans ?_)
  rw [sessionUpdate_eq_ite]
  rfl

end Sys2Proof.Machine

/-! # What a refusal or a fault does in place of stopping the block (60_exceptions.md R360 to R364)

First that no instruction and no step stops; then that FAULT, where a refusal or a full queue is recorded, only gains
bits: once for each part of a step, and from there by `KeptByParts`. -/

namespace Sys2Proof.Machine

open Sys2Proof

/-! ### Every operation goes on (R360, R361, R364) -/

/-- Every row's meaning is a function to the next state, refusals included: no arm faults, and none is left without a
meaning. -/
theorem exec_answers_next (i : Instr) (s : State) : ∃ t, exec i s = .next t := by
  cases i <;> exact ⟨_, rfl⟩

theorem step_answers_next (s : State) : ∃ t, step s = .next t := by
  obtain ⟨-, e⟩ | ⟨op, rest, i, -, -, e⟩ | ⟨op, rest, r, -, -, e⟩ := step_cases s
  · exact ⟨s, e⟩
  · obtain ⟨t, ht⟩ := exec_answers_next i (s.take op rest)
    exact ⟨t, e.trans ht⟩
  · exact ⟨_, e⟩

/-- Settles O9: a step is idle, runs an instruction or records a rejected word, and each of them goes on. -/
theorem noInstructionStops : Obligations.NoInstructionStops := ⟨exec_answers_next, step_answers_next⟩

/-! ### FAULT is sticky (R362) -/

/-- The command path raises QUEUE_OVERFLOW or nothing (R360). -/
theorem CommandKeeps.fault_within {c : Config} {s t : State} (k : CommandKeeps c s t) : s.fault.Within t.fault := by
  obtain e | e := k.fault <;> rw [e]
  · exact FaultReg.within_refl _
  · exact FaultReg.within_overflow _

/-- RX_BYTE writes FAULT only through the acknowledgement that a received packet pushes. -/
theorem rxByteBody_fault_within (c : Config) (b : Byte) (s : State) : s.fault.Within (rxByteBody c b s).fault := by
  obtain ⟨_, _, hk⟩ := assemble_keeps c b (tailUpdate c b { s with tLastRx := some s.now })
  exact hk.fault

theorem tickBody_fault (c : Config) (n : U16) (s : State) : (tickBody c n s).fault = s.fault := by
  obtain ⟨_, _, _, u, rfl, -, e | ⟨_, _, _, -, -, -, -, -, e⟩⟩ := tickBody_cases c n s <;> rw [e]

/-- RESET installs no value for FAULT (R380). -/
theorem resetBody_fault (s : State) : (resetBody s).fault = s.fault := rfl

theorem faultWithin_keptByParts (f : FaultReg) : KeptByParts (fun s => f.Within s.fault) where
  take _ _ _ h := h
  refuse s r h := FaultReg.within_trans h (FaultReg.within_mark s.fault r)
  noteOp _ _ h := h
  reset s _ h := (resetBody_fault s).symm ▸ h
  rxByte b s _ h := FaultReg.within_trans h (rxByteBody_fault_within Config.chip b s)
  tick n s _ h := (tickBody_fault Config.chip n s).symm ▸ h
  command _ _ _ hc h := FaultReg.within_trans h hc.fault_within

/-- RESET run by itself: late, it adds TIME_REGRESS; on time, it leaves FAULT as it is. -/
theorem exec_reset_fault_within {s t : State} (h : exec .reset s = .next t) : s.fault.Within t.fault := by
  obtain rfl : accept resetBody s = t := Host.Outcome.next.inj h
  obtain e | e := accept_cases resetBody s <;> rw [e]
  · exact FaultReg.within_mark s.fault .timeRegress
  · rw [resetBody_fault]
    exact FaultReg.within_refl _

/-- Settles O55: the bits set before a step are a bound from below that each part of the step keeps. -/
theorem faultIsSticky : Obligations.FaultIsSticky :=
  ⟨fun s _ h => (faultWithin_keptByParts s.fault).step (FaultReg.within_refl _) h,
    fun _ _ h => exec_reset_fault_within h, rfl⟩

end Sys2Proof.Machine

/-! # Power-on, RESET and the monotonic check (70_reset_and_hazards.md R380, R381, R392)

First RESET and the state that a model starts from; then what an operation that passed the monotonic check can do to
FAULT, and from there the check itself. -/

namespace Sys2Proof.Machine

open Sys2Proof

/-! ### RESET and power-on (R380, R381) -/

theorem exec_reset_onTime {s : State} (h : s.OnTime) : exec .reset s = .next (resetBody s.noteOp) :=
  congrArg Host.Outcome.next (accept_onTime h)

/-- Settles O11: on time RESET is its body, which installs the listed values. -/
theorem resetInstallsTheResetValues : Obligations.ResetInstallsTheResetValues := fun _ h => exec_reset_onTime h

/-- No timestamp regresses at power-on, and the reset values are in place already (R381). -/
theorem exec_reset_powerOn (now : Nat) :
    exec .reset { State.reset with now := now } = .next { State.reset with now := now, tLastOp := some now } :=
  exec_reset_onTime (s := { State.reset with now := now }) rfl

theorem caches_get_powerOn (f : Family) : State.reset.caches.get f = ⟨0#32, false⟩ := by
  cases f <;> rfl

/-- Settles O10: the power-on values are the defaults of the registers, and RESET installs the same ones. -/
theorem powerOnRegisters : Obligations.PowerOnRegisters :=
  ⟨rfl, rfl, rfl, rfl, rfl, rfl, rfl, rfl, rfl, rfl, rfl, rfl, rfl, rfl, rfl, rfl, rfl, rfl, rfl, rfl, rfl,
    caches_get_powerOn, rfl, rfl, rfl, rfl, exec_reset_powerOn⟩

/-- An open queue depth is at least 1; the other bounds are on defaulted parameters (R6, R7). -/
theorem chip_valid : Config.chip.Valid :=
  ⟨Nat.le_add_left 1 Config.openQueueDepthLessOne, by decide, by decide, by decide, by decide, by decide⟩

/-- Settles O54: nothing is buffered, queued, armed, stamped or running at power-on, so that most invariants ask for
nothing; the flags and the caches agree because both are clear. -/
theorem powerOnMeetsTheInvariants : Obligations.PowerOnMeetsTheInvariants := by
  have hqueue : State.reset.QueueOk Config.chip := ⟨Nat.zero_le _, fun _ hf => nomatch hf⟩
  have htail : State.reset.TailOk Config.chip := ⟨Nat.zero_le _, fun harmed => nomatch harmed⟩
  have hstamps : State.reset.StampsOk :=
    ⟨rfl, rfl, rfl, fun hpending => (nomatch hpending), fun hactive => (nomatch hactive)⟩
  have hsession : State.reset.SessionOk := fun hactive => nomatch hactive
  exact ⟨assemblerOk_of_idle rfl rfl, hqueue, htail, hstamps, hsession, flagsOk_resetBody Config.chip State.reset,
    cachesOk_resetBody State.reset, rfl, chip_valid⟩

/-! ### What an accepted operation does to FAULT (R360) -/

/-- From `s` to `t` FAULT has gained QUEUE_OVERFLOW or nothing. -/
abbrev State.OverflowsAtMost (s t : State) : Prop :=
  t.fault = s.fault ∨ t.fault = { s.fault with queueOverflow := true }

theorem timeRegress_of_overflowsAtMost {s t : State} (h : s.OverflowsAtMost t) :
    t.fault.timeRegress = s.fault.timeRegress := by
  obtain e | e := h <;> rw [e]

theorem sessionUpdate_fault (h : Bool) (s : State) : (sessionUpdate h s).fault = s.fault := by
  obtain ⟨_, _, _, _, e⟩ := sessionUpdate_eq h s
  rw [e]

/-- Of the decode rules only the acknowledged 0xB000 packet pushes, and so can raise QUEUE_OVERFLOW (R237). -/
theorem decodeFamily_overflowsAtMost (c : Config) (f : Family) (code : U16) (d : U32) (s : State) :
    s.OverflowsAtMost (decodeFamily c f code d s) := by
  cases f with
  | f3400 =>
    simp only [decodeFamily, decode3400]
    cases c.sessionSrc
    · exact .inl rfl
    · exact .inl (sessionUpdate_fault _ _)
  | f4002 =>
    simp only [decodeFamily, decode4002]
    obtain ⟨-, e⟩ | ⟨p, -, e⟩ | ⟨p, -, -, e⟩ := btReconcile_cases c (btDecode (btRawOf d)) s <;>
      rw [e, publishBt_eq] <;> exact .inl rfl
  | f6000 => simp only [decodeFamily, decode6000, publishTarget_eq]; exact .inl rfl
  | f6001 => simp only [decodeFamily, decode6001]; split <;> exact .inl rfl
  | f7000 => simp only [decodeFamily, decode7000]; split <;> exact .inl rfl
  | f7180 =>
    simp only [decodeFamily, decode7180]
    cases c.sessionSrc
    · exact .inl (sessionUpdate_fault _ _)
    · exact .inl rfl
  | fB000 =>
    simp only [decodeFamily, decodeB000]
    cases ackLiteralOf d with
    | none => exact .inl rfl
    | some l => exact (CommandKeeps.pushOnly c (c.ackCmd l) _).fault
  | fB6 => simp only [decodeFamily, decodeB6]; split_ifs <;> exact .inl rfl
  | _ => exact .inl rfl

theorem rxByteBody_overflowsAtMost (c : Config) (b : Byte) (s : State) : s.OverflowsAtMost (rxByteBody c b s) := by
  obtain ⟨a, fb, un, dg, u, rfl, e | ⟨f, code, d, e⟩⟩ := rxByteBody_parts c b s <;> rw [e]
  · exact .inl rfl
  · exact decodeFamily_overflowsAtMost c f code d (State.writeCache _ f d)

/-! ### The monotonic check (R392, R361) -/

/-- SET_HUM_PCT's own check comes after the monotonic one: it may as well be the first thing its body does. -/
theorem setHumPct_eq_accept_refuse (c : Config) {p : Nat} (hp : 63 < p) (s : State) :
    setHumPct c p s = accept (fun _ => s.refuse .pctRange) s := by
  by_cases ho : s.OnTime
  · rw [setHumPct_refuses c hp ho, accept_onTime ho]
  · have hlate : s.timeRegresses = true := Bool.eq_true_of_not_eq_false ho
    simp [setHumPct, hlate, accept_late ho]

/-- `i` makes the monotonic check first, and what it does once that is passed leaves TIME_REGRESS as it was. -/
abbrev ChecksTimeFirst (i : Instr) (s : State) : Prop :=
  ∃ body, exec i s = .next (accept body s) ∧ (body s.noteOp).fault.timeRegress = s.fault.timeRegress

theorem ChecksTimeFirst.of_overflows {i : Instr} {s : State} (body : State → State)
    (e : exec i s = .next (accept body s)) (h : s.noteOp.OverflowsAtMost (body s.noteOp)) : ChecksTimeFirst i s :=
  ⟨body, e, timeRegress_of_overflowsAtMost h⟩

/-- Every port operation has a body that raises QUEUE_OVERFLOW at most, but for SET_HUM_PCT's refusal with PCT_RANGE. -/
theorem portOp_checksTimeFirst {w : PortWord} {i : Instr} (h : decode (.portWord w) = .ok i) (s : State) :
    ChecksTimeFirst i s := by
  obtain rfl | ⟨b, rfl⟩ | ⟨n, rfl⟩ | ⟨_, _, _, rfl⟩ | ⟨_, rfl⟩ | ⟨_, rfl⟩ | ⟨_, rfl⟩ | ⟨_, rfl⟩ | ⟨p, rfl⟩ | ⟨_, rfl⟩ |
    ⟨_, rfl⟩ := decodePort_isPortOp h
  · exact .of_overflows _ rfl (.inl (resetBody_fault _))
  · exact .of_overflows _ rfl (rxByteBody_overflowsAtMost _ b _)
  · exact .of_overflows _ rfl (.inl (tickBody_fault _ n _))
  · exact .of_overflows _ rfl (CommandKeeps.pushOnly _ _ _).fault
  · exact .of_overflows _ rfl (CommandKeeps.setBathTimeBody _ _ _).fault
  · exact .of_overflows _ rfl (CommandKeeps.pushOnly _ _ _).fault
  · exact .of_overflows _ rfl (CommandKeeps.pushOnly _ _ _).fault
  · exact .of_overflows _ rfl (CommandKeeps.pushOnly _ _ _).fault
  · by_cases hp : p.toNat ≤ 63
    · exact .of_overflows _ (congrArg Host.Outcome.next (setHumPct_accepts _ hp s)) (CommandKeeps.pushOnly _ _ _).fault
    · exact ⟨_, congrArg Host.Outcome.next (setHumPct_eq_accept_refuse _ (Nat.lt_of_not_le hp) s), rfl⟩
  · exact .of_overflows _ rfl (CommandKeeps.relaySet _ _ _ _).fault
  · exact .of_overflows _ rfl (CommandKeeps.relaySet _ _ _ _).fault

/-- Settles O12: a timestamp below T_LAST_OP is late, so the check refuses; any other is on time, and the operation's
body runs. -/
theorem timeRegressIsRefused : Obligations.TimeRegressIsRefused := by
  intro w i s hd
  obtain ⟨body, e, hbody⟩ := portOp_checksTimeFirst hd s
  refine ⟨fun t ht hlt => ?_, fun hle u hu => ?_⟩
  · have hlate : ¬ s.OnTime := fun ho => Nat.not_le.2 hlt (onTime_iff.1 ho t ht)
    rw [e, accept_late hlate]
    rfl
  · rw [e, accept_onTime (onTime_iff.2 hle)] at hu
    obtain rfl := Host.Outcome.next.inj hu
    exact hbody

end Sys2Proof.Machine
